-- ==== Sys2Proof/Word.lean ====
section
/-! DEFINITION. The words and numbers the TC8's commands and records are made of. -/

namespace Sys2Proof

/-- One byte of a hand link or section line frame (Chapter 12). -/
abbrev Byte := BitVec 8

/-- A TIME value: the 32-bit millisecond count, which wraps (R149). -/
abbrev Time := BitVec 32

/-- The 16-bit identity a handset sends (Table 0-3). -/
abbrev RadioId := BitVec 16

/-- A handset entry, numbered 0..11 (00_scope.md 0.6(1)). -/
abbrev EntryNo := Fin 12

/-- A car slot: `k` stands for slot number `k + 1`, 1..8 (00_scope.md 0.6(1)). -/
abbrev SlotNo := Fin 8

/-- A crossover, numbered 0..15, also its section's address (00_scope.md 0.6(1)). -/
abbrev CrossNo := Fin 16

end Sys2Proof
end

