-- ==== Sys2Proof/Syntax.lean ====
section
/-! DEFINITION. The commands of the TC8: one constructor for each row of spec/opcode_table.json. -/

namespace Sys2Proof

/-- The position a POSITION report names (R98, Table 12-12). -/
inductive Position where
  | straight
  | divert
deriving DecidableEq, Repr

/-- The commands. A hand link frame stands here at the moment its check byte has been taken and found
good (R142): SAMPLE with its payload, a request with its tag and argument bytes (Table 12-3). A report
stands at the moment its check byte has been taken (R109). -/
inductive Instr where
  /-- A SAMPLE frame with this payload (R3, R143). -/
  | sample (payload : List Byte)
  /-- The silence deadline of entry `h` is reached (R10). -/
  | silenceExpiry (h : EntryNo)
  /-- The release deadline of entry `h` is reached (R13). -/
  | releaseExpiry (h : EntryNo)
  /-- The expiry time of entry `h`'s window is reached (R41). -/
  | windowExpiry (h : EntryNo)
  /-- A SIGHTING report: crossover, sensor byte, period P, high count W (R61, R62). -/
  | sighting (x : CrossNo) (sensor p w : Byte)
  /-- The clear deadline of the entry at place `i` (0 the oldest) of crossover `x`'s zone is reached (R83). -/
  | clearDeadlineExpiry (x : CrossNo) (i : Fin 4)
  /-- The dead time of crossover `x` has passed since its settled time (R92). -/
  | guardElapse (x : CrossNo)
  /-- A POSITION report of crossover `x`'s section (R98). -/
  | position (x : CrossNo) (pos : Position)
  /-- The confirm deadline of crossover `x`'s sent command is reached (R94). -/
  | confirmDeadlineExpiry (x : CrossNo)
  /-- Bytes received on the section line, among which the port discards what R108 discards. -/
  | sectionFrameDiscard (bytes : List Byte)
  /-- More than 2 ms have passed since the last byte of a partial report frame (R108). -/
  | sectionByteTimeout
  /-- Bytes received on the hand link, among which the port discards what R142 and R143 discard. -/
  | handLinkFrameDiscard (bytes : List Byte)
  /-- More than 2 ms have passed since the last byte of a partial hand link frame (R142). -/
  | handLinkByteTimeout
  /-- A REQUEST frame whose code is not in Table 12-4 (R151, R159). -/
  | unknownRequest (tag code : Byte) (args : List Byte)
  /-- STATUS (R153). -/
  | status (tag : Byte) (args : List Byte)
  /-- READ-HANDSET(h) (R154). -/
  | readHandset (tag : Byte) (args : List Byte)
  /-- READ-SLOT(k) (R154). -/
  | readSlot (tag : Byte) (args : List Byte)
  /-- READ-CROSSOVER(x) (R87, R160). -/
  | readCrossover (tag : Byte) (args : List Byte)
  /-- READ-WINDOWS (R51). -/
  | readWindows (tag : Byte) (args : List Byte)
  /-- PROFILE-FIRST(k, DB, G, curve) (R19). -/
  | profileFirst (tag : Byte) (args : List Byte)
  /-- PROFILE-SECOND(k, CEIL, MINRUN, RISE, DECAY, policy) (R20). -/
  | profileSecond (tag : Byte) (args : List Byte)
  /-- BIND(h, s) (R48, R49). -/
  | bind (tag : Byte) (args : List Byte)
  /-- UNBIND(k) (R29). -/
  | unbind (tag : Byte) (args : List Byte)
  /-- FORGET(h) (R14). -/
  | forget (tag : Byte) (args : List Byte)
  /-- SET-PACE(k, step) (R30). -/
  | setPace (tag : Byte) (args : List Byte)
  /-- WISH(k, armed) (R31). -/
  | wish (tag : Byte) (args : List Byte)
  /-- BEACON(k, C, D) (R55, R56). -/
  | beacon (tag : Byte) (args : List Byte)
  /-- BEACON-CLEAR(k) (R57). -/
  | beaconClear (tag : Byte) (args : List Byte)
  /-- TOLERANCE(t) (R58). -/
  | tolerance (tag : Byte) (args : List Byte)
  /-- CROSSOVER-SET(x, enable, pulse, dead, confirm, clear) (R104). -/
  | crossoverSet (tag : Byte) (args : List Byte)
  /-- CROSSOVER-CLEAR(x) (R100). -/
  | crossoverClear (tag : Byte) (args : List Byte)
  /-- TRACK(state, cap) (R136). -/
  | track (tag : Byte) (args : List Byte)
  /-- CLEAR-CUTOFF (R139). -/
  | clearCutoff (tag : Byte) (args : List Byte)
  /-- LINK-SET(silence, release, window) (R155). -/
  | linkSet (tag : Byte) (args : List Byte)
  /-- RESTART (R156). -/
  | restart (tag : Byte) (args : List Byte)
  /-- Power-on reset, with the level the fault line has at the reset (R141, R157). -/
  | powerOnReset (lineAsserted : Bool)
  /-- The fault line is asserted (R137). -/
  | faultLineAsserted
  /-- The fault line is released (R138). -/
  | faultLineReleased
  /-- The Rail Sequencer reaches the head frame (R129). -/
  | headFrame
  /-- The Rail Sequencer reaches the drive frame of slot `k` (R112, R130). -/
  | driveFrame (k : SlotNo)
  /-- The Rail Sequencer reaches a gate frame (R131). -/
  | gateFrame
  /-- The Rail Sequencer reaches the code frame (R133). -/
  | codeFrame
  /-- The frame on the hand link ends (R145). -/
  | transmitterFrameEnd
deriving DecidableEq, Repr

end Sys2Proof
end

