-- ==== Sys2Proof/Config.lean ====
section
/-! DEFINITION. What the part fixes for good (capacities, ranges, frame bytes) and the free values:
what the spec leaves open, as constants without a body. -/

namespace Sys2Proof.Config

/-- Pairing windows at most (R36). -/
abbrev windowCapacity : Nat := 4
/-- Zone queue entries at most (R70). -/
abbrev zoneCapacity : Nat := 4
/-- Section commands at most (R101). -/
abbrev commandCapacity : Nat := 8
/-- Replies at most (R144). -/
abbrev replyCapacity : Nat := 4
/-- Echoes at most (R146). -/
abbrev echoCapacity : Nat := 8
/-- Notices at most (R147). -/
abbrev noticeCapacity : Nat := 32

/-- Start byte of a hand link frame (Table 12-1). -/
abbrev handStart : Byte := 0xC3
/-- Start byte of a report frame (Table 12-12). -/
abbrev sectionStart : Byte := 0xB4
/-- Longest payload of a hand link frame (R142). -/
abbrev maxPayload : Nat := 24

/-- Frame kind SAMPLE (Table 12-1). -/
abbrev kindSample : Byte := 0x10
/-- Frame kind ECHO (Table 12-1). -/
abbrev kindEcho : Byte := 0x11
/-- Frame kind REQUEST (Table 12-1). -/
abbrev kindRequest : Byte := 0x20
/-- Frame kind REPLY (Table 12-1). -/
abbrev kindReply : Byte := 0x21
/-- Frame kind NOTICE (Table 12-1). -/
abbrev kindNotice : Byte := 0x22

/-- The request codes of Table 12-4, in its order. -/
def requestCodes : List Byte :=
  [0x01, 0x02, 0x03, 0x04, 0x05, 0x10, 0x11, 0x20, 0x21, 0x22, 0x23, 0x24, 0x30, 0x31, 0x32, 0x40,
   0x41, 0x50, 0x51, 0x60, 0x7F]

/-- FREE VALUE (R65, DESIGN CHOICE, log entry 5): at the `n`-th draw, whether the Pairing Unit takes the
sighting before the Crossover Controller. -/
opaque pairingTakesFirst : Nat → Bool

/-- FREE VALUE (DESIGN CHOICE, log entry 6): at the `n`-th draw, the value of the bits of byte `i` of a
reply that no table of Chapter 12 gives a value. -/
opaque unassignedBits : Nat → Nat → Byte

end Sys2Proof.Config
end

