-- ==== Sys2Proof/Machine/State.lean ====
section
/-! DEFINITION. The state of the TC8: every table, queue and record of Table 0-2, as plain data, and its
value after power-on reset. -/

namespace Sys2Proof.Machine

/-! ### Handset Table (Chapter 1) -/

/-- A handset sample (Table 1-1, Table 12-2). -/
structure Sample where
  trigger : Byte
  lc : Bool
  pair : Bool
  seq : BitVec 4
deriving DecidableEq, Repr

/-- What an enrolled entry holds besides radio ID, sample and binding, by its state (Table 1-2). -/
inductive Phase where
  /-- LIVE: a running silence deadline, and whether a pairing window is open for the entry. -/
  | live (silence : Time) (window : Bool)
  /-- LOST: a release deadline if the release limit was nonzero at the loss. -/
  | lost (release : Option Time)
deriving DecidableEq, Repr

/-- An entry that is LIVE or LOST (Table 1-1). -/
structure Enrolled where
  radioId : RadioId
  sample : Sample
  bound : Option SlotNo
  phase : Phase
deriving DecidableEq, Repr

/-- A handset entry; `none` is the state FREE, which holds nothing (R1). -/
abbrev Entry := Option Enrolled

/-! ### Pairing Unit (Chapter 3) -/

/-- A pairing window (3.1(2)). -/
structure Window where
  entry : EntryNo
  expiry : Time
deriving DecidableEq, Repr

/-- Why a window closes (Table 3-1). -/
inductive CloseReason where
  | bound
  | expired
  | cancelled
  | lost
  | superseded
deriving DecidableEq, Repr

/-! ### Slot Table (Chapter 2) -/

/-- The trigger curve (Table 2-3). -/
inductive Curve where
  | linear
  | progressive
deriving DecidableEq, Repr

/-- The wish policy (Table 2-3). -/
inductive Policy where
  | single
  | repeated
  | hold
deriving DecidableEq, Repr

/-- A complete profile (Table 2-3). -/
structure Profile where
  db : Nat
  gain : Nat
  curve : Curve
  ceil : Nat
  minrun : Nat
  rise : Nat
  decay : Nat
  policy : Policy
deriving DecidableEq, Repr

/-- The holding buffer (2.3). -/
structure Holding where
  db : Nat
  gain : Nat
  curve : Curve
deriving DecidableEq, Repr

/-- What drives a slot (R17). -/
inductive Source where
  | none
  | handset (h : EntryNo)
  | pace (step : Nat)
deriving DecidableEq, Repr

/-- A slot record (Table 2-1). -/
structure Slot where
  source : Source
  active : Profile
  pendingProfile : Option Profile
  wish : Bool
  lastStep : Nat
  failsafe : Bool
deriving DecidableEq, Repr

/-! ### Beacon Matcher (Chapter 4) -/

/-- A beacon code (4.1(2)). -/
structure Code where
  cycle : Nat
  duty : Nat
deriving DecidableEq, Repr

/-! ### Crossover Controller (Chapters 5 and 6) -/

/-- A crossover configuration (Table 6-3). -/
structure CrossConfig where
  enabled : Bool
  pulse : Nat
  dead : Nat
  confirm : Nat
  clear : Nat
deriving DecidableEq, Repr

/-- The nine crossover states (Table 5-2). -/
inductive CrossState where
  | disabled
  | opened
  | passing
  | throwing
  | diverted
  | holding
  | returning
  | fault
  | dark
deriving DecidableEq, Repr

/-- A diverter command's kind (R101). -/
inductive CommandKind where
  | throwing
  | returning
deriving DecidableEq, Repr

/-- Command status (Table 6-1). A THROW is never OWED, and an OWED RETURN keeps the pulse it was decided
with (R91, R96). -/
inductive CommandStatus where
  | none
  | owed (pulse : Nat)
  | queued (kind : CommandKind)
  | sent (kind : CommandKind) (deadline : Time)
deriving DecidableEq, Repr

/-- Why a wished car is denied (Table 5-3). -/
inductive DenyReason where
  | guarded
  | occupied
  | queue
  | fault
deriving DecidableEq, Repr

/-- The decision of a zone entry (Table 5-3). -/
inductive Decision where
  | none
  | honored
  | denied (reason : DenyReason)
deriving DecidableEq, Repr

/-- The outcome of a passage (Table 5-6). -/
inductive PassageOutcome where
  | changed
  | missed
  | denied (reason : DenyReason)
  | forced
  | stayed
  | lostInZone
  | unverified
deriving DecidableEq, Repr

/-- The two exit sensors (5.1(1)). -/
inductive ExitSensor where
  | xs
  | xd
deriving DecidableEq, Repr

/-- A zone queue entry; slot `none` is UNKNOWN (Table 5-3). -/
structure ZoneEntry where
  slot : Option SlotNo
  wished : Bool
  decision : Decision
  entryTime : Time
  clearDeadline : Time
deriving DecidableEq, Repr

/-- A passage record; exit time and sensor are absent together (Table 5-6). -/
structure Passage where
  slot : Option SlotNo
  wished : Bool
  decision : Decision
  outcome : PassageOutcome
  approach : Time
  exit : Option (Time × ExitSensor)
deriving DecidableEq, Repr

/-- A crossover record (Table 5-1). -/
structure Crossover where
  config : CrossConfig
  staged : Option CrossConfig
  state : CrossState
  status : CommandStatus
  settled : Time
  guardRunning : Bool
  zone : List ZoneEntry
  last : Option Passage
  lastNew : Bool
  previous : Option Passage
deriving DecidableEq, Repr

/-- A command of the section command queue (R101). -/
structure SectionCommand where
  crossover : CrossNo
  kind : CommandKind
  pulse : Nat
deriving DecidableEq, Repr

/-- Why a crossover enters FAULT (R99). -/
inductive FaultCause where
  | confirmTimeout
  | wrongPosition
deriving DecidableEq, Repr

/-! ### Track Supervisor and Console Interpreter (Chapters 9 and 11) -/

/-- The track state (R135). -/
inductive TrackState where
  | halt
  | run
  | cutoff
deriving DecidableEq, Repr

/-- The reset cause (R149). -/
inductive ResetCause where
  | powerOn
  | restart
deriving DecidableEq, Repr

/-- A notice's kind and arguments (Table 11-3). -/
inductive NoticeBody where
  | started (cause : ResetCause)
  | handsetLost (h : EntryNo)
  | handsetReleased (h : EntryNo)
  | windowOpen (h : EntryNo)
  | windowClosed (h : EntryNo) (reason : CloseReason)
  | bound (h : EntryNo) (k : SlotNo)
  | lane (x : CrossNo) (slot : Option SlotNo) (outcome : PassageOutcome)
  | crossoverFault (x : CrossNo) (cause : FaultCause)
  | cutoff
  | cutoffCleared
deriving DecidableEq, Repr

/-- A notice as queued: with the low 16 bits of TIME and the overrun bit (R147). -/
structure Notice where
  body : NoticeBody
  time : BitVec 16
  overrun : Bool
deriving DecidableEq, Repr

/-! ### Link Port (Chapter 10) -/

/-- An echo's kind and argument (Table 10-2). -/
inductive EchoBody where
  | tableFull
  | windowOpen (seconds : Nat)
  | windowRefused
  | windowClosed (reason : CloseReason)
  | bound (k : SlotNo)
  | released
deriving DecidableEq, Repr

/-- An echo, addressed by radio ID (R146). -/
structure Echo where
  radioId : RadioId
  body : EchoBody
deriving DecidableEq, Repr

/-- The reply statuses (Table 11-1). -/
inductive ReplyStatus where
  | ok
  | unknownRequest
  | badLength
  | badIndex
  | noHandset
  | slotPace
  | slotBound
  | notPace
  | codeClash
  | notFaulted
  | zoneBusy
  | cutoffActive
  | lineActive
  | notCutoff
deriving DecidableEq, Repr

/-- A reply's data: of one frame, or of the three parts of an OK READ-CROSSOVER (R160). -/
inductive ReplyData where
  | single (bytes : List Byte)
  | parts (one two three : List Byte)
deriving DecidableEq, Repr

/-- A reply as queued, with its data formed when the request was taken (R152). -/
structure Reply where
  tag : Byte
  code : Byte
  status : ReplyStatus
  data : ReplyData
deriving DecidableEq, Repr

/-- An outbound frame (Table 10-1). `bytes` of a reply are what follows its status byte. -/
inductive OutFrame where
  | reply (tag code : Byte) (status : ReplyStatus) (bytes : List Byte)
  | echo (e : Echo)
  | notice (n : Notice)
deriving DecidableEq, Repr

/-- The outbound transmitter: free, or sending `frame`, with the parts of the same reply that follow it
(R145, R160). -/
inductive Transmitter where
  | free
  | sending (frame : OutFrame) (parts : List OutFrame)
deriving DecidableEq, Repr

/-- The outbound side of the hand link: the reply and echo queues and the transmitter of the Link Port, and the
notice queue and overrun flag of the Console Interpreter, whose frames leave through it (10.1(1)). -/
structure Outbound where
  replies : List Reply
  echoes : List Echo
  notices : List Notice
  overrun : Bool
  transmitter : Transmitter
deriving DecidableEq, Repr

/-! ### Rail Sequencer (Chapter 8) -/

/-- A rail frame (Table 12-13). The command of an idle gate frame is `none`. -/
inductive RailFrame where
  | head (round : BitVec 8) (track : TrackState) (cap : Nat)
  | drive (k : SlotNo) (step : Nat) (brake wish failsafe bound : Bool)
  | gate (command : Option SectionCommand)
  | code (code : Option Code)
deriving DecidableEq, Repr

/-- The state of the part (Table 0-2), with the queue of commands waiting and the count of free values
drawn, which are the model's own. -/
structure State where
  -- Link Port, and the notice queue of the Console Interpreter
  handRx : List Byte
  out : Outbound
  -- Handset Table
  handsets : Vector Entry 12
  -- Pairing Unit
  windows : List Window
  -- Slot Table
  slots : Vector Slot 8
  holding : Holding
  -- Beacon Matcher
  beacons : Vector (Option Code) 8
  tolerance : Nat
  -- Crossover Controller
  crossovers : Vector Crossover 16
  commands : List SectionCommand
  -- Section Line Port
  sectionRx : List Byte
  -- Rail Sequencer
  roundNumber : BitVec 8
  framePos : Fin 12
  railFresh : Bool
  railLine : Option RailFrame
  -- Track Supervisor
  track : TrackState
  cap : Nat
  faultLine : Bool
  -- Console Interpreter
  resetCause : ResetCause
  time : Time
  silenceLimit : Nat
  releaseLimit : Nat
  windowLength : Nat
  -- The model's own
  pending : List Instr
  freeDraws : Nat
deriving DecidableEq, Repr

/-- Reasons a step stops with a fault: none. The spec names no condition that stops the part: what fails a
check is discarded (R61, R108, R142, R143) or answered with a status (R151). -/
inductive Fault where
deriving DecidableEq, Repr

/-- Reasons a command has no meaning. -/
inductive Refusal where
  /-- Raised by an arm of `exec` for a command that has no meaning yet; no arm raises it now. Safe. -/
  | notModelled (mnemonic : String)
deriving DecidableEq, Repr

/-- The default profile (Table 2-3). -/
def Profile.default : Profile :=
  { db := 8, gain := 256, curve := .linear, ceil := 63, minrun := 0, rise := 63, decay := 4,
    policy := .single }

/-- The holding buffer after either reset (R34, R35). -/
def Holding.default : Holding := { db := 8, gain := 256, curve := .linear }

/-- A slot record after power-on (R34). -/
def Slot.default : Slot :=
  { source := .none, active := .default, pendingProfile := none, wish := false, lastStep := 0,
    failsafe := false }

/-- The default configuration (Table 6-3). -/
def CrossConfig.default : CrossConfig :=
  { enabled := false, pulse := 20, dead := 30, confirm := 60, clear := 1500 }

/-- A crossover record after power-on; its guard is elapsed (R92, R110). -/
def Crossover.default : Crossover :=
  { config := .default, staged := none, state := .disabled, status := .none, settled := 0,
    guardRunning := false, zone := [], last := none, lastNew := false, previous := none }

/-- The part after power-on reset with the fault line released (DESIGN CHOICE, log entry 8): R16, R34, R52,
R66, R89, R109, R110, R128, R141, R148, R157. The notice STARTED(POWER_ON) is already on the line, because
the free transmitter starts it at once (R145, R148, DEDUCED, log entry 9). -/
def State.reset : State where
  handRx := []
  out :=
    { replies := [], echoes := [], notices := [], overrun := false
      transmitter := .sending (.notice { body := .started .powerOn, time := 0, overrun := false }) [] }
  handsets := Vector.replicate 12 none
  windows := []
  slots := Vector.replicate 8 .default
  holding := .default
  beacons := Vector.replicate 8 none
  tolerance := 10
  crossovers := Vector.replicate 16 .default
  commands := []
  sectionRx := []
  roundNumber := 0
  framePos := 0
  railFresh := true
  railLine := none
  track := .halt
  cap := 63
  faultLine := false
  resetCause := .powerOn
  time := 0
  silenceLimit := 300
  releaseLimit := 120
  windowLength := 10
  pending := []
  freeDraws := 0

end Sys2Proof.Machine
end

