-- ==== Sys2Proof/Machine/Operands.lean ====
section
/-! DEFINITION. The argument forms of the requests: numbers of one and two bytes, checked indices, clamped
values and coded choices (R18, R151, R159). -/

namespace Sys2Proof.Machine

/-- Two bytes, high byte first (R159). -/
def be16 (hi lo : Byte) : Nat := hi.toNat * 256 + lo.toNat

/-- `n` clamped into `lo..hi` (R18). -/
def clamp (lo hi n : Nat) : Nat := min (max n lo) hi

/-- A handset entry argument, 0..11 (R151 ③). -/
def entryArg (b : Byte) : Option EntryNo := if h : b.toNat < 12 then some ⟨b.toNat, h⟩ else none

/-- A slot argument, 1..8 (R151 ③). -/
def slotArg (b : Byte) : Option SlotNo :=
  if h : 1 ≤ b.toNat ∧ b.toNat ≤ 8 then some ⟨b.toNat - 1, by omega⟩ else none

/-- A crossover argument, 0..15 (R151 ③). -/
def crossArg (b : Byte) : Option CrossNo := if h : b.toNat < 16 then some ⟨b.toNat, h⟩ else none

/-- A flag argument: 0 is no and any other value is yes (R31, R104). -/
def flagArg (b : Byte) : Bool := b != 0

/-- A curve: 0 LINEAR, any other PROGRESSIVE (R18, Table 12-4 note 1). -/
def curveArg (b : Byte) : Curve := if b = 0 then .linear else .progressive

/-- A policy: 0 SINGLE, 1 REPEAT, any other HOLD (R18, Table 12-4 note 1). -/
def policyArg (b : Byte) : Policy := if b = 0 then .single else if b = 1 then .repeated else .hold

/-- The state of a TRACK request: 0 RUN, any other HALT (R136, R159). -/
def trackArg (b : Byte) : TrackState := if b = 0 then .run else .halt

/-- The first half of a profile, clamped (Table 2-3, R19). -/
def holdingArgs (db gainHi gainLo curve : Byte) : Holding :=
  { db := clamp 0 127 db.toNat, gain := clamp 0 1023 (be16 gainHi gainLo), curve := curveArg curve }

/-- A complete profile from the holding buffer and the second half, clamped (Table 2-3, R20). -/
def profileArgs (hold : Holding) (ceil minrun rise decay policy : Byte) : Profile :=
  { db := hold.db, gain := hold.gain, curve := hold.curve
    ceil := clamp 0 63 ceil.toNat, minrun := clamp 0 63 minrun.toNat
    rise := clamp 1 63 rise.toNat, decay := clamp 1 63 decay.toNat, policy := policyArg policy }

/-- A beacon code, C clamped to 16..255 and then D to 1..C−1 (R55). -/
def codeArgs (cHi cLo dHi dLo : Byte) : Code :=
  let c := clamp 16 255 (be16 cHi cLo)
  { cycle := c, duty := clamp 1 (c - 1) (be16 dHi dLo) }

/-- A crossover configuration, each limit clamped (R104, Table 6-3). -/
def configArgs (enable pulse dead confirm clearHi clearLo : Byte) : CrossConfig :=
  { enabled := flagArg enable, pulse := clamp 5 60 pulse.toNat, dead := clamp 0 250 dead.toNat
    confirm := clamp 10 250 confirm.toNat, clear := clamp 100 5000 (be16 clearHi clearLo) }

/-- A sample from its four payload bytes (Table 12-2): flag bits 2..3 are not examined (R143). -/
def sampleArgs (trigger flags : Byte) : Sample :=
  { trigger := trigger, lc := flags.getLsbD 0, pair := flags.getLsbD 1
    seq := flags.extractLsb' 4 4 }

end Sys2Proof.Machine
end

