-- ==== Sys2Proof/Machine/Ops.lean ====
section
/-! DEFINITION. The named operations over the records, TIME and the outbound queues, shared by the
commands. -/

namespace Sys2Proof.Machine

/-! ### Records by number -/

/-- Apply `f` to every member of a table. -/
def mapTable {α β : Type} {n : Nat} (f : α → β) (v : Vector α n) : Vector β n :=
  ⟨⟨v.toList.map f⟩, by simp⟩

/-- Handset entry `h`. -/
def State.entry (s : State) (h : EntryNo) : Entry := s.handsets[h.val]

/-- Slot record `k`. -/
def State.slot (s : State) (k : SlotNo) : Slot := s.slots[k.val]

/-- Crossover record `x`. -/
def State.cross (s : State) (x : CrossNo) : Crossover := s.crossovers[x.val]

/-- Slot `k`'s beacon code. -/
def State.code (s : State) (k : SlotNo) : Option Code := s.beacons[k.val]

/-- Replace handset entry `h`. -/
def State.setEntry (s : State) (h : EntryNo) (e : Entry) : State :=
  { s with handsets := s.handsets.set h.val e }

/-- Replace slot record `k`. -/
def State.setSlot (s : State) (k : SlotNo) (r : Slot) : State :=
  { s with slots := s.slots.set k.val r }

/-- Replace crossover record `x`. -/
def State.setCross (s : State) (x : CrossNo) (c : Crossover) : State :=
  { s with crossovers := s.crossovers.set x.val c }

/-- Replace slot `k`'s beacon code. -/
def State.setCode (s : State) (k : SlotNo) (c : Option Code) : State :=
  { s with beacons := s.beacons.set k.val c }

/-- The entry whose handset has radio ID `id`; FREE entries hold none and never match (R3). -/
def State.findEntry (s : State) (id : RadioId) : Option EntryNo :=
  (List.finRange 12).find? fun h => match s.entry h with
    | some e => e.radioId == id
    | none => false

/-- The lowest-numbered FREE entry (R4). -/
def State.lowestFree (s : State) : Option EntryNo :=
  (List.finRange 12).find? fun h => (s.entry h).isNone

/-- Whether an entry is LOST. -/
def Entry.isLost : Entry → Bool
  | some e => match e.phase with
    | .lost _ => true
    | .live _ _ => false
  | none => false

/-- Whether an entry is LIVE. -/
def Entry.isLive : Entry → Bool
  | some e => match e.phase with
    | .live _ _ => true
    | .lost _ => false
  | none => false

/-- An entry's open window field: only a LIVE entry may have yes (Table 1-2). -/
def Entry.window : Entry → Bool
  | some e => match e.phase with
    | .live _ w => w
    | .lost _ => false
  | none => false

/-- An entry with its open window field replaced; only a LIVE entry has one (R15, Table 1-2). -/
def Entry.withWindow : Entry → Bool → Entry
  | some e, w => match e.phase with
    | .live silence _ => some { e with phase := .live silence w }
    | .lost _ => some e
  | none, _ => none

/-- An entry with its bound slot field replaced; a FREE entry has none (R15). -/
def Entry.withBound : Entry → Option SlotNo → Entry
  | some e, k => some { e with bound := k }
  | none, _ => none

/-- An entry's bound slot (Table 1-1). -/
def Entry.boundSlot : Entry → Option SlotNo
  | some e => e.bound
  | none => none

/-! ### TIME -/

/-- A deadline has been reached: TIME has come to it or passed it. TIME wraps, and every limit is far
shorter than half the wrap, so the half of the circle before TIME counts as past (R2, R37, R83, DEDUCED,
log entry 10). -/
def reached (now deadline : Time) : Bool := decide ((now - deadline).toNat < 2 ^ 31)

/-- The time remaining to a deadline: the deadline less TIME (R51, R84, R87, R154), and 0 for one that has
been reached and not yet taken (DESIGN CHOICE, log entry 11). -/
def remaining (now deadline : Time) : Nat :=
  if reached now deadline then 0 else (deadline - now).toNat

/-- The TIME `ms` milliseconds from now. -/
def State.after (s : State) (ms : Nat) : Time := s.time + BitVec.ofNat 32 ms

/-- One millisecond passes (R149). -/
def tick (s : State) : State := { s with time := s.time + 1 }

/-- Count one free value as drawn (DESIGN CHOICE, log entry 6). -/
def State.draw (s : State) : State := { s with freeDraws := s.freeDraws + 1 }

/-! ### The transmitter and the outbound queues (Chapter 10) -/

/-- The part byte of a READ-CROSSOVER part: the part number in bits 0..3, the count 3 in bits 4..7
(R160). -/
def partByte (part : Nat) : Byte := BitVec.ofNat 8 (3 * 16 + part)

/-- The frames a reply is sent as: one, or three parts in order (R160). -/
def Reply.onLine (r : Reply) : Transmitter :=
  match r.data with
  | .single bytes => .sending (.reply r.tag r.code r.status bytes) []
  | .parts one two three =>
    .sending (.reply r.tag r.code r.status (partByte 1 :: one))
      [.reply r.tag r.code r.status (partByte 2 :: two),
       .reply r.tag r.code r.status (partByte 3 :: three)]

/-- A free transmitter takes the head of the reply queue, else of the echo queue, else of the notice
queue, and removes it from its queue (R145). -/
def Outbound.startNext (o : Outbound) : Outbound :=
  match o.transmitter with
  | .sending _ _ => o
  | .free =>
    match o.replies, o.echoes, o.notices with
    | r :: rest, _, _ => { o with replies := rest, transmitter := r.onLine }
    | [], e :: rest, _ => { o with echoes := rest, transmitter := .sending (.echo e) [] }
    | [], [], n :: rest => { o with notices := rest, transmitter := .sending (.notice n) [] }
    | [], [], [] => o

/-- The frame on the line ends. The next part of the same reply follows if there is one (R160); otherwise
the transmitter is free and takes the next frame in the same event (R145). -/
def Outbound.endFrame (o : Outbound) : Outbound :=
  match o.transmitter with
  | .free => o
  | .sending _ (next :: rest) => { o with transmitter := .sending next rest }
  | .sending _ [] => Outbound.startNext { o with transmitter := .free }

/-- A reply is queued at the tail (R150); a free transmitter starts it at once (R145). -/
def Outbound.reply (o : Outbound) (r : Reply) : Outbound :=
  Outbound.startNext { o with replies := o.replies ++ [r] }

/-- The echoes after `e` is appended: of a full queue the oldest is dropped (R146). -/
def appendEcho (e : Echo) (echoes : List Echo) : List Echo :=
  (if echoes.length < Config.echoCapacity then echoes else echoes.tail) ++ [e]

/-- An echo is handed to the Link Port (R146); a free transmitter starts it at once (R145). -/
def Outbound.echo (o : Outbound) (id : RadioId) (body : EchoBody) : Outbound :=
  Outbound.startNext { o with echoes := appendEcho { radioId := id, body := body } o.echoes }

/-- A notice is formed with the low 16 bits of TIME and the overrun flag and queued; of a full queue it is
discarded and the overrun flag is set (R147, R158). A free transmitter starts it at once (R145). -/
def Outbound.notice (o : Outbound) (body : NoticeBody) (now : Time) : Outbound :=
  if o.notices.length < Config.noticeCapacity then
    Outbound.startNext { o with
      notices := o.notices ++ [{ body := body, time := now.setWidth 16, overrun := o.overrun }]
      overrun := false }
  else { o with overrun := true }

/-- The frame on the hand link ends (R145). -/
def endFrame (s : State) : State := { s with out := s.out.endFrame }

/-- A reply is queued (R150). -/
def queueReply (r : Reply) (s : State) : State := { s with out := s.out.reply r }

/-- An echo is handed to the Link Port (R146). -/
def queueEcho (id : RadioId) (body : EchoBody) (s : State) : State :=
  { s with out := s.out.echo id body }

/-- An echo addressed to entry `h`'s radio ID. A FREE entry has none and is never addressed (R1). -/
def echoTo (h : EntryNo) (body : EchoBody) (s : State) : State :=
  { s with out := match s.entry h with
    | some e => s.out.echo e.radioId body
    | none => s.out }

/-- A notice is handed to the Console Interpreter (R147, R158). -/
def queueNotice (body : NoticeBody) (s : State) : State :=
  { s with out := s.out.notice body s.time }

end Sys2Proof.Machine
end

