-- ==== Sys2Proof/Machine/Pairing.lean ====
section
/-! DEFINITION. Bindings and pairing windows: the operations of Chapters 2 and 3 that several commands
share. -/

namespace Sys2Proof.Machine

/-! ### Slot records -/

/-- Set slot `k`'s wish (R23). -/
def setWish (k : SlotNo) (armed : Bool) (s : State) : State :=
  s.setSlot k { s.slot k with wish := armed }

/-- Set or clear slot `k`'s failsafe flag (R26). -/
def setFailsafe (k : SlotNo) (on : Bool) (s : State) : State :=
  s.setSlot k { s.slot k with failsafe := on }

/-- Replace the bound slot field of entry `h` (R15). -/
def setBound (h : EntryNo) (k : Option SlotNo) (s : State) : State :=
  s.setEntry h ((s.entry h).withBound k)

/-- A CHANGED outcome handed to a slot disarms its wish under SINGLE (R25). -/
def handChanged (slot : Option SlotNo) (s : State) : State :=
  match slot with
  | some k => if (s.slot k).active.policy = .single then setWish k false s else s
  | none => s

/-! ### Bindings -/

/-- A binding of entry `h` to slot `k` is made: source, wish and failsafe at the slot, bound slot at the
entry; the profiles and the last step are kept (R27). -/
def makeBinding (h : EntryNo) (k : SlotNo) (s : State) : State :=
  let r := s.slot k
  setBound h (some k) (s.setSlot k
    { r with source := .handset h, wish := false, failsafe := (s.entry h).isLost })

/-- A binding of entry `h` to slot `k` is broken (R28). -/
def breakBinding (h : EntryNo) (k : SlotNo) (s : State) : State :=
  let r := s.slot k
  setBound h none (s.setSlot k { r with source := .none, wish := false, failsafe := false })

/-- The binding of entry `h`, if it has one, is broken (R13 ①, R14 ②). -/
def breakBindingOf (h : EntryNo) (s : State) : State :=
  match (s.entry h).boundSlot with
  | some k => breakBinding h k s
  | none => s

/-! ### Pairing windows -/

/-- Whether the list holds a window for entry `h`. -/
def hasWindow (h : EntryNo) (s : State) : Bool := s.windows.any fun w => w.entry == h

/-- Replace the open window field of entry `h` (R15). -/
def setWindowField (h : EntryNo) (w : Bool) (s : State) : State :=
  s.setEntry h ((s.entry h).withWindow w)

/-- Entry `h`'s window closes: removed from the list, field no, echo, and the notice unless the reason is
BOUND (R40). -/
def closeWindow (h : EntryNo) (reason : CloseReason) (s : State) : State :=
  let s := { s with windows := s.windows.filter fun w => w.entry != h }
  let s := setWindowField h false s
  let s := echoTo h (.windowClosed reason) s
  if reason = .bound then s else queueNotice (.windowClosed h reason) s

/-- An open request of an entry without a window: a window at the tail with the window length in force, or
WINDOW_REFUSED when the list holds 4 (R37, R38). -/
def openWindow (h : EntryNo) (s : State) : State :=
  if s.windows.length < Config.windowCapacity then
    let w : Window := { entry := h, expiry := s.after (1000 * s.windowLength) }
    let s := setWindowField h true { s with windows := s.windows ++ [w] }
    let s := echoTo h (.windowOpen s.windowLength) s
    queueNotice (.windowOpen h) s
  else echoTo h .windowRefused s

/-- An open request: of an entry that has a window it is a cancel request (R38). -/
def openRequest (h : EntryNo) (s : State) : State :=
  if hasWindow h s then closeWindow h .cancelled s else openWindow h s

/-- A cancel request: of an entry that has no window it is an open request (R39). -/
def cancelRequest (h : EntryNo) (s : State) : State :=
  if hasWindow h s then closeWindow h .cancelled s else openWindow h s

/-- A window of entry `h` closes with `reason` if its open window field says that there is one
(R10 ③, R14 ①, R29 ①, R49 ①). -/
def closeIfOpen (h : EntryNo) (reason : CloseReason) (s : State) : State :=
  if (s.entry h).window then closeWindow h reason s else s

/-! ### Binding by sighting -/

/-- A classified sighting is eligible for pairing: its slot's source is NONE and the list holds a window
(R43). -/
def eligible (k : SlotNo) (s : State) : Bool :=
  (s.slot k).source == .none && !s.windows.isEmpty

/-- The Pairing Unit takes a sighting: an eligible one binds the head window's entry to the slot (R43,
R44). -/
def pairSighting (slot : Option SlotNo) (s : State) : State :=
  match slot, s.windows with
  | some k, w :: _ =>
    if eligible k s then
      let s := breakBindingOf w.entry s
      let s := makeBinding w.entry k s
      let s := closeWindow w.entry .bound s
      let s := echoTo w.entry (.bound k) s
      queueNotice (.bound w.entry k) s
    else s
  | some _, [] => s
  | none, _ => s

end Sys2Proof.Machine
end

