-- ==== Sys2Proof/Machine/Handset.lean ====
section
/-! DEFINITION. The Handset Table's events: SAMPLE, SILENCE_EXPIRY, RELEASE_EXPIRY, and the Pairing Unit's
WINDOW_EXPIRY (Chapters 1 and 3). -/

namespace Sys2Proof.Machine

/-- What every meaning answers. -/
abbrev Result := Host.Outcome State Fault Refusal

/-! ### Samples -/

/-- Enrolment of an unknown radio ID in FREE entry `h`, then an open request (R4). -/
def enrol (h : EntryNo) (id : RadioId) (m : Sample) (s : State) : State :=
  openRequest h (s.setEntry h (some
    { radioId := id, sample := m, bound := none, phase := .live (s.after s.silenceLimit) false }))

/-- A sample from an unknown radio ID: enrolled, answered TABLE_FULL, or discarded (R4, R5). -/
def unknownSample (id : RadioId) (m : Sample) (s : State) : State :=
  if m.pair then
    match s.lowestFree with
    | some h => enrol h id m s
    | none => queueEcho id .tableFull s
  else s

/-- The LC press, or under HOLD the LC state, is handed to the bound slot (R9). -/
def handLc (bound : Option SlotNo) (press lc : Bool) (s : State) : State :=
  match bound with
  | none => s
  | some k =>
    match (s.slot k).active.policy with
    | .hold => setWish k lc s
    | .single | .repeated => if press then setWish k (!(s.slot k).wish) s else s

/-- A PAIR press is handed to the Pairing Unit by the open window field (R8). -/
def handPair (h : EntryNo) (press window : Bool) (s : State) : State :=
  if press then if window then cancelRequest h s else openRequest h s else s

/-- An accepted sample of entry `h`, which held `e` (R7). -/
def acceptSample (h : EntryNo) (e : Enrolled) (m : Sample) (s : State) : State :=
  let pairPress := m.pair && !e.sample.pair
  let lcPress := m.lc && !e.sample.lc
  let window := Entry.window (some e)
  let updated := s.setEntry h (some
    { e with sample := m, phase := .live (s.after s.silenceLimit) window })
  let revived := match e.phase, e.bound with
    | .lost _, some k => setFailsafe k false updated
    | .lost _, none => updated
    | .live _ _, _ => updated
  handLc e.bound lcPress m.lc (handPair h pairPress window revived)

/-- A duplicate only restarts the silence timer (R6). -/
def restartSilence (h : EntryNo) (e : Enrolled) (window : Bool) (s : State) : State :=
  s.setEntry h (some { e with phase := .live (s.after s.silenceLimit) window })

/-- A sample from entry `h` (R6, R7). -/
def knownSample (h : EntryNo) (e : Enrolled) (m : Sample) (s : State) : State :=
  match e.phase with
  | .live _ window => if m.seq = e.sample.seq then restartSilence h e window s else acceptSample h e m s
  | .lost _ => acceptSample h e m s

/-- The Handset Table takes a sample (R3). -/
def takeSample (id : RadioId) (m : Sample) (s : State) : State :=
  match s.findEntry id with
  | some h => match s.entry h with
    | some e => knownSample h e m s
    | none => s
  | none => unknownSample id m s

/-- A SAMPLE frame is routed: with a payload of 4 bytes and a radio ID other than 0x0000 and 0xFFFF it is one
sample, otherwise it is discarded (R143). -/
def routeSample (payload : List Byte) (s : State) : State :=
  match payload with
  | [idHi, idLo, trigger, flags] =>
    let id : RadioId := BitVec.ofNat 16 (be16 idHi idLo)
    if id = 0x0000 ∨ id = 0xFFFF then s else takeSample id (sampleArgs trigger flags) s
  | _ => s

/-- SAMPLE (R3 to R9, R143). The frame is complete, so the port hunts again (R142). -/
def execSample (payload : List Byte) (s : State) : Result :=
  .next (routeSample payload { s with handRx := [] })

/-! ### Silence and release -/

/-- Entry `h`, which held `e` and is LIVE, becomes LOST (R10). -/
def loseHandset (h : EntryNo) (e : Enrolled) (window : Bool) (s : State) : State :=
  let s := s.setEntry h (some { e with phase := .lost none })
  let s := match e.bound with
    | some k =>
      let s := setFailsafe k true s
      if (s.slot k).active.policy = .hold then setWish k false s else s
    | none => s
  let s := if window then closeWindow h .lost s else s
  let release := if s.releaseLimit = 0 then none else some (s.after (1000 * s.releaseLimit))
  let s := s.setEntry h (some { e with phase := .lost release })
  queueNotice (.handsetLost h) s

/-- SILENCE_EXPIRY (R10). It happens to a LIVE entry whose silence deadline has been reached; otherwise there
is no deadline to reach (R11, R14; DESIGN CHOICE, log entry 3). -/
def execSilenceExpiry (h : EntryNo) (s : State) : Result :=
  .next (match s.entry h with
    | some e => match e.phase with
      | .live silence window => if reached s.time silence then loseHandset h e window s else s
      | .lost _ => s
    | none => s)

/-- Entry `h` leaves the table: its binding is broken, RELEASED and HANDSET_RELEASED are sent, and it becomes
FREE (R13, R14). -/
def releaseHandset (h : EntryNo) (s : State) : State :=
  let s := breakBindingOf h s
  let s := echoTo h .released s
  let s := queueNotice (.handsetReleased h) s
  s.setEntry h none

/-- RELEASE_EXPIRY (R13). It happens to a LOST entry whose release deadline has been reached (R12;
DESIGN CHOICE, log entry 3). -/
def execReleaseExpiry (h : EntryNo) (s : State) : Result :=
  .next (match s.entry h with
    | some e => match e.phase with
      | .lost (some release) => if reached s.time release then releaseHandset h s else s
      | .lost none => s
      | .live _ _ => s
    | none => s)

/-! ### Windows -/

/-- WINDOW_EXPIRY (R41). It happens to a window whose expiry time has been reached (R46;
DESIGN CHOICE, log entry 3). -/
def execWindowExpiry (h : EntryNo) (s : State) : Result :=
  .next (match s.windows.find? fun w => w.entry == h with
    | some w => if reached s.time w.expiry then closeWindow h .expired s else s
    | none => s)

end Sys2Proof.Machine
end

