-- ==== Sys2Proof/Machine/Zone.lean ====
section
/-! DEFINITION. The crossover record: diverter commands, guard, configuration, zone queue and passages
(Chapters 5 and 6). -/

namespace Sys2Proof.Machine

/-! ### The guard -/

/-- The dead time has passed since the settled time, TIME's wrap set apart (R92, DEDUCED, log entry 10). -/
def deadTimePassed (now settled : Time) (dead : Nat) : Bool := decide (dead ≤ (now - settled).toNat)

/-! ### The section command queue (6.6) -/

/-- A command is appended at the tail of the section command queue (R101). -/
def State.pushCommand (s : State) (d : SectionCommand) : State :=
  { s with commands := s.commands ++ [d] }

/-- A RETURN is decided for crossover `x`: QUEUED when the command queue has room and OWED when it has not
(R96). -/
def decideReturn (x : CrossNo) (s : State) : State :=
  let c := s.cross x
  if s.commands.length < Config.commandCapacity then
    (s.pushCommand { crossover := x, kind := .returning, pulse := c.config.pulse }).setCross x
      { c with state := .returning, status := .queued .returning }
  else s.setCross x { c with state := .returning, status := .owed c.config.pulse }

/-- A THROW is decided for crossover `x` and queued (R74). -/
def decideThrow (x : CrossNo) (s : State) : State :=
  let c := s.cross x
  (s.pushCommand { crossover := x, kind := .throwing, pulse := c.config.pulse }).setCross x
    { c with state := .throwing, status := .queued .throwing }

/-- The pulse of an OWED RETURN. -/
def CommandStatus.owedPulse : CommandStatus → Option Nat
  | .owed pulse => some pulse
  | .none | .queued _ | .sent _ _ => Option.none

/-- The lowest-numbered crossover with an OWED RETURN (R102). -/
def lowestOwed (s : State) : Option CrossNo :=
  (List.finRange 16).find? fun x => (s.cross x).status.owedPulse.isSome

/-- The room one departure frees is given to the lowest-numbered OWED RETURN (R102). -/
def serveOwed (s : State) : State :=
  match lowestOwed s with
  | none => s
  | some x =>
    match (s.cross x).status.owedPulse with
    | none => s
    | some pulse =>
      (s.pushCommand { crossover := x, kind := .returning, pulse := pulse }).setCross x
        { s.cross x with status := .queued .returning }

/-! ### FAULT -/

/-- Whether a command stands in the queue. -/
def CommandStatus.isQueued : CommandStatus → Bool
  | .queued _ => true
  | .none | .owed _ | .sent _ _ => false

/-- Crossover `x` enters FAULT: its command is removed or dropped, the zone is kept, the notice is queued,
and the room of a removed command is given (R99). -/
def enterFault (x : CrossNo) (cause : FaultCause) (s : State) : State :=
  let c := s.cross x
  let faulted := { c with state := .fault, status := .none }
  if c.status.isQueued then
    let removed := { s with commands := s.commands.filter fun d => d.crossover != x }
    serveOwed (queueNotice (.crossoverFault x cause) (removed.setCross x faulted))
  else queueNotice (.crossoverFault x cause) (s.setCross x faulted)

/-! ### Configuration (6.7) -/

/-- The record with a configuration in force, the guard judged again from the settled time (R92,
R105 ②). -/
def Crossover.withConfig (c : Crossover) (now : Time) (g : CrossConfig) : Crossover :=
  { c with config := g, guardRunning := !deadTimePassed now c.settled g.dead }

/-- A configuration is applied to crossover `x` (R105), and takes it out of service (R106) or brings it into
service (R107) as its state says. -/
def applyConfig (x : CrossNo) (g : CrossConfig) (s : State) : State :=
  let c := (s.cross x).withConfig s.time g
  let applied := s.setCross x c
  if g.enabled then
    match c.state with
    | .disabled =>
      if s.track = .cutoff then s.setCross x { c with state := .dark } else decideReturn x applied
    | .opened | .passing | .throwing | .diverted | .holding | .returning | .fault | .dark => applied
  else
    match c.state with
    | .opened | .disabled | .dark => s.setCross x { c with state := .disabled }
    | .fault => if c.zone.isEmpty then s.setCross x { c with state := .disabled } else applied
    | .passing | .throwing | .diverted | .holding | .returning => applied

/-- Crossover `x` becomes OPEN and applies its staged configuration, if it holds one (R85, R97, R105). -/
def becomeOpen (x : CrossNo) (s : State) : State :=
  let c := s.cross x
  match c.staged with
  | none => s.setCross x { c with state := .opened }
  | some g => applyConfig x g (s.setCross x { c with state := .opened, staged := none })

/-- Crossover `x` becomes HOLDING; if its guard has elapsed the RETURN is decided at once (R85, R95). -/
def becomeHolding (x : CrossNo) (s : State) : State :=
  let c := s.cross x
  let held := s.setCross x { c with state := .holding }
  if c.guardRunning then held else decideReturn x held

/-- The emptied-queue rule (R85), with the disable that waits in FAULT (R106). -/
def emptiedQueue (x : CrossNo) (s : State) : State :=
  let c := s.cross x
  match c.state with
  | .passing => becomeOpen x s
  | .diverted => becomeHolding x s
  | .fault => if c.config.enabled then s else s.setCross x { c with state := .disabled }
  | .disabled | .opened | .throwing | .holding | .returning | .dark => s

/-! ### Removal from the zone queue (R81) -/

/-- Entry `e` is removed, leaving `rest`, with an outcome: its passage record becomes LAST and the old LAST
PREVIOUS (R86), a CHANGED outcome is handed to its slot (R25), and LANE is queued unless the outcome is
STAYED (R88). -/
def completePassage (x : CrossNo) (e : ZoneEntry) (rest : List ZoneEntry) (outcome : PassageOutcome)
    (exit : Option (Time × ExitSensor)) (s : State) : State :=
  let c := s.cross x
  let record : Passage :=
    { slot := e.slot, wished := e.wished, decision := e.decision, outcome := outcome
      approach := e.entryTime, exit := exit }
  let s := s.setCross x
    { c with zone := rest, last := some record, lastNew := true, previous := c.last.or c.previous }
  let s := if outcome = .changed then handChanged e.slot s else s
  if outcome = .stayed then s else queueNotice (.lane x e.slot outcome) s

/-- A removal by an exit or a clear deadline, with the emptied-queue rule where the queue is now empty
(R81). -/
def removeEntry (x : CrossNo) (e : ZoneEntry) (rest : List ZoneEntry) (outcome : PassageOutcome)
    (exit : Option (Time × ExitSensor)) (s : State) : State :=
  let s := completePassage x e rest outcome exit s
  if rest.isEmpty then emptiedQueue x s else s

/-! ### Approach (5.3) -/

/-- First stage of displacement: the entry of the same slot is removed UNVERIFIED (R73). -/
def displaceSlot (x : CrossNo) (slot : Option SlotNo) (s : State) : State :=
  match slot with
  | none => s
  | some k =>
    let zone := (s.cross x).zone
    match zone.find? fun e => e.slot == some k with
    | some e => completePassage x e (zone.eraseP fun e => e.slot == some k) .unverified none s
    | none => s

/-- Second stage of displacement: the head of a queue of 4 is removed UNVERIFIED (R73). -/
def displaceHead (x : CrossNo) (s : State) : State :=
  match (s.cross x).zone with
  | e :: rest =>
    if Config.zoneCapacity ≤ rest.length + 1 then completePassage x e rest .unverified none s else s
  | [] => s

/-- The crossover takes sightings: it is neither DISABLED nor DARK (R64, R69). -/
def CrossState.active : CrossState → Bool
  | .disabled | .dark => false
  | .opened | .passing | .throwing | .diverted | .holding | .returning | .fault => true

/-- The approach of a slot is wished when its wish is armed at that moment; UNKNOWN never is, and no later change of
the wish alters the entry, a binding among them (R71). The last sentence of R77 has an entry that is not wished even
where the approach of an armed slot is taken before a binding or unbinding of it; the model follows R71 there
(DESIGN CHOICE, log entry 15). -/
def approachWished (slot : Option SlotNo) (s : State) : Bool :=
  match slot with
  | some k => (s.slot k).wish
  | none => false

/-- The decision of an approach and the state it leaves, from Table 5-4 (R74, R75, R76). -/
def approachDecision (c : Crossover) (queueFull wished : Bool) : Decision × CrossState :=
  match c.state with
  | .opened =>
    if !wished then (.none, .passing)
    else if c.guardRunning then (.denied .guarded, .passing)
    else if queueFull then (.denied .queue, .passing)
    else (.honored, .throwing)
  | .passing => (if wished then .denied .occupied else .none, .passing)
  | .throwing => (if wished then .honored else .none, .throwing)
  | .diverted => (if wished then .honored else .none, .diverted)
  | .holding => (if wished then .honored else .none, .diverted)
  | .returning => (if wished then .denied .guarded else .none, .returning)
  | .fault => (if wished then .denied .fault else .none, .fault)
  | .disabled => (.none, .disabled)
  | .dark => (.none, .dark)

/-- The new entry is appended and decided, and a THROW is queued where an OPEN crossover honours it (R72 ③,
R74, R75, R76). -/
def appendEntry (x : CrossNo) (slot : Option SlotNo) (s : State) : State :=
  let c := s.cross x
  let wished := approachWished slot s
  let decided := approachDecision c (Config.commandCapacity ≤ s.commands.length) wished
  let e : ZoneEntry :=
    { slot := slot, wished := wished, decision := decided.1, entryTime := s.time
      clearDeadline := s.after c.config.clear }
  let entered := s.setCross x { c with zone := c.zone ++ [e], state := decided.2 }
  if c.state = .opened ∧ decided.2 = .throwing then decideThrow x entered else entered

/-- An approach at an active crossover: room is cleared, the emptied-queue rule is applied where that removed
the last entry, and the new entry is made unless the crossover became DISABLED (R72). -/
def takeApproach (x : CrossNo) (slot : Option SlotNo) (s : State) : State :=
  let cleared := displaceHead x (displaceSlot x slot s)
  let settled :=
    if !(s.cross x).zone.isEmpty && (cleared.cross x).zone.isEmpty then emptiedQueue x cleared
    else cleared
  if (settled.cross x).state.active then appendEntry x slot settled else settled

/-! ### Exits (5.4) -/

/-- The outcome at a classified exit (Table 5-5, R79). -/
def exitOutcome (e : ZoneEntry) (sensor : ExitSensor) : PassageOutcome :=
  match sensor, e.decision with
  | .xd, .honored => .changed
  | .xd, .denied _ => .changed
  | .xd, .none => .forced
  | .xs, .honored => .missed
  | .xs, .denied r => .denied r
  | .xs, .none => .stayed

/-- An exit at an active crossover: a classified one removes its slot's entry wherever it stands, an UNKNOWN
one the head; without such an entry it is ignored (R78, R80). -/
def takeExit (x : CrossNo) (sensor : ExitSensor) (slot : Option SlotNo) (s : State) : State :=
  let zone := (s.cross x).zone
  match slot with
  | some k =>
    match zone.find? fun e => e.slot == some k with
    | some e =>
      removeEntry x e (zone.eraseP fun e => e.slot == some k) (exitOutcome e sensor)
        (some (s.time, sensor)) s
    | none => s
  | none =>
    match zone with
    | e :: rest => removeEntry x e rest .unverified (some (s.time, sensor)) s
    | [] => s

end Sys2Proof.Machine
end

