-- ==== Sys2Proof/Machine/Diverter.lean ====
section
/-! DEFINITION. The diverter's events: POSITION, GUARD_ELAPSE, CONFIRM_DEADLINE_EXPIRY, and
CLEAR_DEADLINE_EXPIRY of a zone entry (Chapters 5 and 6). -/

namespace Sys2Proof.Machine

/-- The command of crossover `x` is confirmed: status NONE, settled time now, guard started, and elapsed at
once when the dead time is 0 (R92, R93, R97). -/
def confirmCommand (x : CrossNo) (s : State) : State :=
  let c := s.cross x
  s.setCross x { c with status := .none, settled := s.time, guardRunning := c.config.dead != 0 }

/-- A THROW is confirmed: DIVERTED with a car in the zone, HOLDING with none (R93). -/
def confirmThrow (x : CrossNo) (s : State) : State :=
  let s := confirmCommand x s
  let c := s.cross x
  if c.zone.isEmpty then becomeHolding x s else s.setCross x { c with state := .diverted }

/-- A RETURN is confirmed: OPEN with the zone empty, PASSING with a car in it (R97). -/
def confirmReturn (x : CrossNo) (s : State) : State :=
  let s := confirmCommand x s
  let c := s.cross x
  if c.zone.isEmpty then becomeOpen x s else s.setCross x { c with state := .passing }

/-- The Crossover Controller takes a POSITION report (Table 6-2; R93, R97, R98). -/
def takePosition (x : CrossNo) (pos : Position) (s : State) : State :=
  let c := s.cross x
  match c.state with
  | .disabled | .fault | .dark => s
  | .opened | .passing =>
    match pos with
    | .straight => s
    | .divert => enterFault x .wrongPosition s
  | .diverted | .holding =>
    match pos with
    | .divert => s
    | .straight => enterFault x .wrongPosition s
  | .throwing =>
    match c.status, pos with
    | .sent _ _, .divert => confirmThrow x s
    | _, _ => enterFault x .wrongPosition s
  | .returning =>
    match c.status, pos with
    | .sent _ _, .straight => confirmReturn x s
    | _, _ => enterFault x .wrongPosition s

/-- POSITION (R93, R97, R98). The frame is complete, so the port hunts again (R108). -/
def execPosition (x : CrossNo) (pos : Position) (s : State) : Result :=
  .next (takePosition x pos { s with sectionRx := [] })

/-- The guard of crossover `x` elapses; in HOLDING the RETURN is decided (R92, R95). -/
def elapseGuard (x : CrossNo) (s : State) : State :=
  let c := s.cross x
  let elapsed := s.setCross x { c with guardRunning := false }
  if c.state = .holding then decideReturn x elapsed else elapsed

/-- GUARD_ELAPSE (R92). It happens to a running guard when the dead time in force has passed since the settled
time (DESIGN CHOICE, log entry 3). -/
def execGuardElapse (x : CrossNo) (s : State) : Result :=
  let c := s.cross x
  .next (if c.guardRunning && deadTimePassed s.time c.settled c.config.dead then elapseGuard x s else s)

/-- CONFIRM_DEADLINE_EXPIRY (R94). It happens to a SENT command whose confirm deadline has been
reached (DESIGN CHOICE, log entry 3). -/
def execConfirmDeadlineExpiry (x : CrossNo) (s : State) : Result :=
  .next (match (s.cross x).status with
    | .sent _ deadline =>
      if reached s.time deadline then enterFault x .confirmTimeout s else s
    | .none | .owed _ | .queued _ => s)

/-- CLEAR_DEADLINE_EXPIRY (R83). It happens to the zone entry at place `i` when its clear deadline has been
reached (DESIGN CHOICE, log entry 3). -/
def execClearDeadlineExpiry (x : CrossNo) (i : Fin 4) (s : State) : Result :=
  let zone := (s.cross x).zone
  .next (match zone[i.val]? with
    | some e =>
      if reached s.time e.clearDeadline then
        removeEntry x e (zone.eraseIdx i.val) .lostInZone none s
      else s
    | none => s)

end Sys2Proof.Machine
end

