-- ==== Sys2Proof/Machine/Flags.lean ====
section
/-! DEFINITION. The masks and counts STATUS gathers (R153), and the bytes of flags of the other records
(Chapter 12). -/

namespace Sys2Proof.Machine

/-- A number from its bits, the first the least significant. -/
def ofBits : List Bool → Nat
  | [] => 0
  | b :: rest => b.toNat + 2 * ofBits rest

/-- A byte from its bits, bit 0 first. -/
def byteOfBits (bits : List Bool) : Byte := BitVec.ofNat 8 (ofBits bits)

/-- The wish mask: bit n−1 set while slot n's wish is armed (R153). -/
def wishMask (s : State) : BitVec 8 := BitVec.ofNat 8 (ofBits (s.slots.toList.map (·.wish)))

/-- The bound mask: bit n−1 set while slot n's source is not NONE (R153). -/
def boundMask (s : State) : BitVec 8 :=
  BitVec.ofNat 8 (ofBits (s.slots.toList.map fun r => r.source != .none))

/-- The failsafe mask: bit n−1 set while slot n's failsafe flag is set (R153). -/
def failsafeMask (s : State) : BitVec 8 :=
  BitVec.ofNat 8 (ofBits (s.slots.toList.map (·.failsafe)))

/-- The crossover fault mask: bit x set while crossover x is in FAULT (R68, R153). -/
def faultMask (s : State) : BitVec 16 :=
  BitVec.ofNat 16 (ofBits (s.crossovers.toList.map fun c => c.state == .fault))

/-- The enrolled count: the entries that are LIVE or LOST (R1, R153). -/
def enrolledCount (s : State) : Nat := (s.handsets.toList.filter (·.isSome)).length

/-- The SAMPLE flag byte: LC in bit 0, PAIR in bit 1, the sequence in bits 4..7 (Table 12-2). -/
def sampleFlags (m : Sample) : Byte :=
  BitVec.ofNat 8 (m.lc.toNat + 2 * m.pair.toNat + 16 * m.seq.toNat)

/-- A byte whose bits under `mask` no table assigns: those bits are `free`'s (DESIGN CHOICE, log entry 6). -/
def fillBits (mask stated free : Byte) : Byte := (stated &&& ~~~mask) ||| (free &&& mask)

end Sys2Proof.Machine
end

