-- ==== Sys2Proof/Machine/Frames.lean ====
section
/-! DEFINITION. The bytes of outbound frames and the bits of rail frames (Chapter 12). -/

namespace Sys2Proof.Machine

/-- A number as one byte. -/
def byte (n : Nat) : Byte := BitVec.ofNat 8 n

/-- A number as two bytes, high byte first (12.1). -/
def bytes16 (n : Nat) : List Byte := [byte (n / 256), byte n]

/-- A number as three bytes, high byte first (12.1). -/
def bytes24 (n : Nat) : List Byte := [byte (n / 65536), byte (n / 256), byte n]

/-- A number as four bytes, high byte first (12.1). -/
def bytes32 (n : Nat) : List Byte := [byte (n / 16777216), byte (n / 65536), byte (n / 256), byte n]

/-! ### Code values -/

/-- Status codes (Table 12-5). -/
def ReplyStatus.code : ReplyStatus → Byte
  | .ok => 0x00
  | .unknownRequest => 0x01
  | .badLength => 0x02
  | .badIndex => 0x03
  | .noHandset => 0x10
  | .slotPace => 0x11
  | .slotBound => 0x12
  | .notPace => 0x13
  | .codeClash => 0x14
  | .notFaulted => 0x15
  | .zoneBusy => 0x16
  | .cutoffActive => 0x17
  | .lineActive => 0x18
  | .notCutoff => 0x19

/-- Close reasons (Table 12-6 note 1). -/
def CloseReason.code : CloseReason → Byte
  | .bound => 0
  | .expired => 1
  | .cancelled => 2
  | .lost => 3
  | .superseded => 4

/-- The reset cause (Table 12-6, Table 12-8). -/
def ResetCause.code : ResetCause → Byte
  | .powerOn => 0
  | .restart => 1

/-- The track state in replies and head frames: 0 HALT, 1 RUN, 2 CUTOFF (R159). -/
def TrackState.code : TrackState → Nat
  | .halt => 0
  | .run => 1
  | .cutoff => 2

/-- Deny reasons, coded as the decision values 2..5 (Table 12-7). -/
def DenyReason.code : DenyReason → Nat
  | .guarded => 2
  | .occupied => 3
  | .queue => 4
  | .fault => 5

/-- Decisions (Table 12-7). -/
def Decision.code : Decision → Nat
  | .none => 0
  | .honored => 1
  | .denied r => r.code

/-- The outcome byte: the outcome in bits 0..3 and, for DENIED, the reason in bits 4..7 (Table 12-7). -/
def PassageOutcome.code : PassageOutcome → Nat
  | .changed => 1
  | .missed => 2
  | .denied r => 3 + 16 * r.code
  | .forced => 4
  | .stayed => 5
  | .lostInZone => 6
  | .unverified => 7

/-- Crossover states (Table 12-11). -/
def CrossState.code : CrossState → Nat
  | .disabled => 0
  | .opened => 1
  | .passing => 2
  | .throwing => 3
  | .diverted => 4
  | .holding => 5
  | .returning => 6
  | .fault => 7
  | .dark => 8

/-- A slot number: 1..8, and 0 for UNKNOWN or none (Tables 12-6, 12-9, 12-11). -/
def slotNumber : Option SlotNo → Nat
  | some k => k.val + 1
  | none => 0

/-- The cause of a FAULT (Table 12-6). -/
def FaultCause.code : FaultCause → Byte
  | .confirmTimeout => 0
  | .wrongPosition => 1

/-! ### Hand link frames -/

/-- The check byte that makes the sum of `covered` and itself 0 modulo 256 (10.1(2), R108). -/
def checkByte (covered : List Byte) : Byte := 0 - covered.sum

/-- A hand link frame (Table 12-1). -/
def handFrame (kind : Byte) (payload : List Byte) : List Byte :=
  let covered := kind :: byte payload.length :: payload
  Config.handStart :: covered ++ [checkByte covered]

/-- A notice's code (Table 12-6). -/
def NoticeBody.code : NoticeBody → Byte
  | .started _ => 0x01
  | .handsetLost _ => 0x02
  | .handsetReleased _ => 0x03
  | .windowOpen _ => 0x04
  | .windowClosed _ _ => 0x05
  | .bound _ _ => 0x06
  | .lane _ _ _ => 0x07
  | .crossoverFault _ _ => 0x08
  | .cutoff => 0x09
  | .cutoffCleared => 0x0A

/-- A notice's argument bytes (Table 12-6). -/
def NoticeBody.args : NoticeBody → List Byte
  | .started cause => [cause.code]
  | .handsetLost h | .handsetReleased h | .windowOpen h => [byte h.val]
  | .windowClosed h reason => [byte h.val, reason.code]
  | .bound h k => [byte h.val, byte (k.val + 1)]
  | .lane x slot outcome => [byte x.val, byte (slotNumber slot), byte outcome.code]
  | .crossoverFault x cause => [byte x.val, cause.code]
  | .cutoff | .cutoffCleared => []

/-- An echo's code (Table 12-6). -/
def EchoBody.code : EchoBody → Byte
  | .tableFull => 0x01
  | .windowOpen _ => 0x02
  | .windowRefused => 0x03
  | .windowClosed _ => 0x04
  | .bound _ => 0x05
  | .released => 0x06

/-- An echo's argument byte (Table 10-2). -/
def EchoBody.arg : EchoBody → Byte
  | .windowOpen seconds => byte seconds
  | .windowClosed reason => reason.code
  | .bound k => byte (k.val + 1)
  | .tableFull | .windowRefused | .released => 0

/-- The kind byte of an outbound frame (Table 12-1). -/
def OutFrame.kind : OutFrame → Byte
  | .reply _ _ _ _ => Config.kindReply
  | .echo _ => Config.kindEcho
  | .notice _ => Config.kindNotice

/-- The payload of an outbound frame (Tables 12-2 and 12-3). -/
def OutFrame.payload : OutFrame → List Byte
  | .reply tag code status bytes => tag :: code :: status.code :: bytes
  | .echo e => bytes16 e.radioId.toNat ++ [e.body.code, e.body.arg]
  | .notice n =>
    [n.body.code, byteOfBits [n.overrun]] ++ bytes16 n.time.toNat ++ n.body.args

/-- The bytes of an outbound frame on the hand link (R145). -/
def OutFrame.bytes (f : OutFrame) : List Byte := handFrame f.kind f.payload

/-! ### Section line report frames -/

/-- A report frame with the head byte and body given (Table 12-12). -/
def reportFrame (head : Byte) (body : List Byte) : List Byte :=
  let covered := head :: body
  Config.sectionStart :: covered ++ [checkByte covered]

/-- The position byte of a POSITION report (Table 12-12). -/
def Position.code : Position → Byte
  | .straight => 0
  | .divert => 1

/-! ### Rail frames -/

/-- The 2-bit type of a rail frame (Table 12-13). -/
def RailFrame.kind : RailFrame → Nat
  | .head _ _ _ => 0
  | .drive _ _ _ _ _ _ => 1
  | .gate _ => 2
  | .code _ => 3

/-- A diverter command in a gate frame: 1 THROW, 2 RETURN (Table 12-13). -/
def CommandKind.railCode : CommandKind → Nat
  | .throwing => 1
  | .returning => 2

/-- The 16-bit body of a rail frame, fields from the most significant bit (Table 12-13). An idle gate frame
and a silent code frame are all 0 (note 1). -/
def RailFrame.body : RailFrame → Nat
  | .head round track cap => round.toNat * 256 + track.code * 64 + cap
  | .drive k step brake wish failsafe bound =>
    step * 1024 + brake.toNat * 512 + wish.toNat * 256 + failsafe.toNat * 128 + bound.toNat * 64
      + k.val * 8
  | .gate (some c) => c.crossover.val * 4096 + c.kind.railCode * 1024 + c.pulse * 16
  | .gate none => 0
  | .code (some c) => c.cycle * 256 + c.duty
  | .code none => 0

/-- The 18 bits of a rail frame, sent most significant bit first (R126, Table 12-13). -/
def RailFrame.bits (f : RailFrame) : BitVec 18 := BitVec.ofNat 18 (f.kind * 65536 + f.body)

end Sys2Proof.Machine
end

