-- ==== Sys2Proof/Machine/Records.lean ====
section
/-! DEFINITION. The data of the replies (12.4). `u i` is the free value of the bits of byte `i` that no
table assigns (DESIGN CHOICE, log entry 6). -/

namespace Sys2Proof.Machine

/-- STATUS reply data, 16 bytes (R153, Table 12-8). -/
def statusData (s : State) : List Byte :=
  [byte s.track.code, byte s.cap, s.resetCause.code] ++ bytes32 s.time.toNat
    ++ [byte (enrolledCount s), byte s.windows.length, wishMask s, boundMask s, failsafeMask s]
    ++ bytes16 (faultMask s).toNat ++ [byte s.commands.length, byte s.out.notices.length]

/-- READ-HANDSET reply data (R154, Table 12-9). -/
def handsetData (s : State) (h : EntryNo) : List Byte :=
  match s.entry h with
  | none => [0]
  | some e =>
    let fields := bytes16 e.radioId.toNat
      ++ [e.sample.trigger, sampleFlags e.sample, byte (slotNumber e.bound)]
    match e.phase with
    | .live silence window =>
      1 :: fields ++ [byte window.toNat] ++ bytes24 (remaining s.time silence)
    | .lost (some release) => 2 :: fields ++ [0] ++ bytes24 (remaining s.time release)
    | .lost none => 2 :: fields ++ [0] ++ bytes24 0

/-- A curve's code (Table 12-4 note 1). -/
def Curve.code : Curve → Nat
  | .linear => 0
  | .progressive => 1

/-- A policy's code (Table 12-4 note 1). -/
def Policy.code : Policy → Nat
  | .single => 0
  | .repeated => 1
  | .hold => 2

/-- A profile, 8 bytes: the mode byte has the curve in bit 0 and the policy in bits 1..2, and no table
assigns its bits 3..7 (Table 12-10 note 1). -/
def profileBytes (free : Byte) (p : Profile) : List Byte :=
  [byte p.db] ++ bytes16 p.gain ++ [byte p.ceil, byte p.minrun, byte p.rise, byte p.decay,
    fillBits 0xF8 (byte (p.curve.code + 2 * p.policy.code)) free]

/-- The two source bytes of READ-SLOT (Table 12-10). -/
def sourceBytes : Source → List Byte
  | .none => [0, 0]
  | .handset h => [1, byte h.val]
  | .pace p => [2, byte p]

/-- READ-SLOT reply data, 12 or 20 bytes (R154, Table 12-10). -/
def slotData (u : Nat → Byte) (r : Slot) : List Byte :=
  sourceBytes r.source
    ++ [fillBits 0xF8 (byteOfBits [r.wish, r.failsafe, r.pendingProfile.isSome]) (u 2), byte r.lastStep]
    ++ profileBytes (u 11) r.active
    ++ match r.pendingProfile with
      | some p => profileBytes (u 19) p
      | none => []

/-- A configuration, 5 bytes: enable in bit 7 and the pulse in bits 0..5 of the first, whose bit 6 no table
assigns (Table 12-11 note 1). -/
def configBytes (free : Byte) (c : CrossConfig) : List Byte :=
  [fillBits 0x40 (byte (128 * c.enabled.toNat + c.pulse)) free, byte c.dead, byte c.confirm]
    ++ bytes16 c.clear

/-- Command status in part 1 of READ-CROSSOVER (Table 12-11). -/
def CommandStatus.code : CommandStatus → Nat
  | .none => 0
  | .owed _ => 1
  | .queued _ => 2
  | .sent _ _ => 3

/-- The kind of the outstanding command, if there is one (R91). -/
def CommandStatus.kind : CommandStatus → Option CommandKind
  | .none => Option.none
  | .owed _ => some .returning
  | .queued kind => some kind
  | .sent kind _ => some kind

/-- Byte 0 of part 1: state, command status, command kind, staged present. With no command the kind bit has
no stated value (Table 12-11, DESIGN CHOICE, log entry 6). -/
def crossStateByte (free : Byte) (c : Crossover) : Byte :=
  let stated := c.state.code + 16 * c.status.code + 128 * c.staged.isSome.toNat
  match c.status.kind with
  | none => fillBits 0x40 (byte stated) free
  | some .throwing => byte stated
  | some .returning => byte (stated + 64)

/-- The time remaining to the confirm deadline, 0 unless SENT (Table 12-11). -/
def confirmRemaining (now : Time) : CommandStatus → Nat
  | .sent _ deadline => remaining now deadline
  | .none | .owed _ | .queued _ => 0

/-- Part 1 of READ-CROSSOVER, 17 bytes (Table 12-11). -/
def crossPart1 (u : Nat → Byte) (now : Time) (c : Crossover) : List Byte :=
  [crossStateByte (u 0) c] ++ configBytes (u 1) c.config
    ++ (match c.staged with
      | some g => configBytes (u 6) g
      | none => [0, 0, 0, 0, 0])
    ++ [byte (confirmRemaining now c.status)] ++ bytes32 c.settled.toNat ++ [byte c.zone.length]

/-- Slot, decision and wished of a zone entry or passage record (Table 12-11). -/
def carByte (slot : Option SlotNo) (decision : Decision) (wished : Bool) : Byte :=
  byte (slotNumber slot + 16 * decision.code + 128 * wished.toNat)

/-- One 5-byte zone slot (Table 12-11). -/
def zoneBytes (now : Time) (e : ZoneEntry) : List Byte :=
  [carByte e.slot e.decision e.wished] ++ bytes16 (e.entryTime.toNat % 65536)
    ++ bytes16 (remaining now e.clearDeadline)

/-- Part 2 of READ-CROSSOVER: four zone slots, oldest first, unused slots 0 (Table 12-11). -/
def crossPart2 (now : Time) (c : Crossover) : List Byte :=
  let used := (c.zone.take 4).flatMap (zoneBytes now)
  used ++ List.replicate (20 - used.length) 0

/-- The bits of byte 2 of a passage record that no table assigns: bits 4..7, and the new flag of PREVIOUS
(Table 12-11 note 2, DESIGN CHOICE, log entry 6). -/
def passageFreeMask (isLast : Bool) : Byte := byte (0xF0 + (if isLast then 0 else 2))

/-- A passage record, 7 bytes; an absent one is all 0. Bit 3 of byte 2 is set for an exit sensor of XD, and a
record without an exit has no exit sensor (Table 5-6). Its exit time bytes have no stated value (Table 12-11
note 2, DESIGN CHOICE, log entry 6). -/
def passageBytes (u : Nat → Byte) (isLast new : Bool) : Option Passage → List Byte
  | none => [0, 0, 0, 0, 0, 0, 0]
  | some p =>
    let isXd := match p.exit with
      | some (_, .xd) => true
      | some (_, .xs) | none => false
    [carByte p.slot p.decision p.wished, byte p.outcome.code,
      fillBits (passageFreeMask isLast) (byteOfBits [true, new, p.exit.isSome, isXd]) (u 2)]
      ++ bytes16 (p.approach.toNat % 65536)
      ++ match p.exit with
        | some (time, _) => bytes16 (time.toNat % 65536)
        | none => [u 5, u 6]

/-- Part 3 of READ-CROSSOVER: LAST with its new flag, and PREVIOUS (Table 12-11). -/
def crossPart3 (u : Nat → Byte) (c : Crossover) : List Byte :=
  passageBytes (fun i => u (32 + i)) true c.lastNew c.last
    ++ passageBytes (fun i => u (39 + i)) false false c.previous

/-- READ-WINDOWS reply data: the count and, oldest first, each window's entry, the entry's radio ID and the
time remaining (R51, Table 12-4). -/
def windowsData (s : State) : List Byte :=
  byte s.windows.length :: s.windows.flatMap fun w =>
    byte w.entry.val :: (match s.entry w.entry with
      | some e => bytes16 e.radioId.toNat
      | none => [0, 0]) ++ bytes16 (remaining s.time w.expiry)

end Sys2Proof.Machine
end

