-- ==== Sys2Proof/Machine/Requests.lean ====
section
/-! DEFINITION. Taking a request (R144, R150, R151), and the reading requests: STATUS, READ_HANDSET,
READ_SLOT, READ_CROSSOVER, READ_WINDOWS (Chapter 11). -/

namespace Sys2Proof.Machine

/-! ### Replies -/

/-- A REQUEST frame is complete, so the port hunts again (R142); with a full reply queue it is discarded
unanswered, otherwise the Console Interpreter takes it (R144). -/
def onRequest (take : State → State) (s : State) : State :=
  let s := { s with handRx := [] }
  if s.out.replies.length < Config.replyCapacity then take s else s

/-- The OK reply with one frame of data, formed after the effect (R150, R152). -/
def answer (tag code : Byte) (bytes : List Byte) (s : State) : State :=
  queueReply { tag := tag, code := code, status := .ok, data := .single bytes } s

/-- A refusal: nothing changes but the reply queue (R151, R152). -/
def refuseWith (tag code : Byte) (status : ReplyStatus) (bytes : List Byte) (s : State) : State :=
  queueReply { tag := tag, code := code, status := status, data := .single bytes } s

/-- A refusal without data (R152). -/
def refuse (tag code : Byte) (status : ReplyStatus) (s : State) : State :=
  refuseWith tag code status [] s

/-- The free value of the unassigned reply bits at this draw (DESIGN CHOICE, log entry 6). -/
def freeBits (s : State) : Nat → Byte := Config.unassignedBits s.freeDraws

/-! ### Reading the part -/

/-- STATUS (R153). -/
def statusRequest (tag : Byte) (args : List Byte) (s : State) : State :=
  match args with
  | [] => answer tag 0x01 (statusData s) s
  | _ => refuse tag 0x01 .badLength s

/-- STATUS (R153). -/
def execStatus (tag : Byte) (args : List Byte) (s : State) : Result :=
  .next (onRequest (statusRequest tag args) s)

/-- READ-HANDSET(h) (R154). -/
def readHandsetRequest (tag : Byte) (args : List Byte) (s : State) : State :=
  match args with
  | [b] =>
    match entryArg b with
    | some h => answer tag 0x02 (handsetData s h) s
    | none => refuse tag 0x02 .badIndex s
  | _ => refuse tag 0x02 .badLength s

/-- READ-HANDSET(h) (R154). -/
def execReadHandset (tag : Byte) (args : List Byte) (s : State) : Result :=
  .next (onRequest (readHandsetRequest tag args) s)

/-- READ-SLOT(k) (R154). -/
def readSlotRequest (tag : Byte) (args : List Byte) (s : State) : State :=
  match args with
  | [b] =>
    match slotArg b with
    | some k => answer tag 0x03 (slotData (freeBits s) (s.slot k)) s.draw
    | none => refuse tag 0x03 .badIndex s
  | _ => refuse tag 0x03 .badLength s

/-- READ-SLOT(k) (R154). -/
def execReadSlot (tag : Byte) (args : List Byte) (s : State) : Result :=
  .next (onRequest (readSlotRequest tag args) s)

/-- The three-part reply of READ-CROSSOVER, and then LAST's new flag cleared (R87, R160). -/
def readCross (tag : Byte) (x : CrossNo) (s : State) : State :=
  let c := s.cross x
  let u := freeBits s
  queueReply
    { tag := tag, code := 0x04, status := .ok
      data := .parts (crossPart1 u s.time c) (crossPart2 s.time c) (crossPart3 u c) }
    (s.draw.setCross x { c with lastNew := false })

/-- READ-CROSSOVER(x) (R87). -/
def readCrossoverRequest (tag : Byte) (args : List Byte) (s : State) : State :=
  match args with
  | [b] =>
    match crossArg b with
    | some x => readCross tag x s
    | none => refuse tag 0x04 .badIndex s
  | _ => refuse tag 0x04 .badLength s

/-- READ-CROSSOVER(x) (R87, R160). -/
def execReadCrossover (tag : Byte) (args : List Byte) (s : State) : Result :=
  .next (onRequest (readCrossoverRequest tag args) s)

/-- READ-WINDOWS (R51). -/
def readWindowsRequest (tag : Byte) (args : List Byte) (s : State) : State :=
  match args with
  | [] => answer tag 0x05 (windowsData s) s
  | _ => refuse tag 0x05 .badLength s

/-- READ-WINDOWS (R51). -/
def execReadWindows (tag : Byte) (args : List Byte) (s : State) : Result :=
  .next (onRequest (readWindowsRequest tag args) s)

end Sys2Proof.Machine
end

