-- ==== Sys2Proof/Machine/Resets.lean ====
section
/-! DEFINITION. RESTART, POWER_ON_RESET, and the fault line's two events (Chapters 9 and 11). -/

namespace Sys2Proof.Machine

/-! ### The fault line -/

/-- A crossover record as the track enters CUTOFF: command and zone dropped, DARK unless DISABLED
(R90, R137 ② to ④). -/
def Crossover.darkened (c : Crossover) : Crossover :=
  { c with status := .none, zone := [], state := if c.state = .disabled then .disabled else .dark }

/-- The track enters CUTOFF (R137). -/
def enterCutoff (s : State) : State :=
  queueNotice .cutoff
    { s with track := .cutoff, commands := [], crossovers := mapTable Crossover.darkened s.crossovers }

/-- FAULT_LINE_ASSERTED (R137). In CUTOFF only the fault line state changes. -/
def execFaultLineAsserted (s : State) : Result :=
  let asserted := { s with faultLine := true }
  .next (if s.track = .cutoff then asserted else enterCutoff asserted)

/-- FAULT_LINE_RELEASED (R138). -/
def execFaultLineReleased (s : State) : Result := .next { s with faultLine := false }

/-! ### RESTART -/

/-- A slot record after RESTART (R35). -/
def Slot.restarted (r : Slot) : Slot :=
  { r with
    source := match r.source with
      | .handset _ => .none
      | .pace p => .pace p
      | .none => .none
    pendingProfile := none, wish := false, lastStep := 0, failsafe := false }

/-- A crossover record after RESTART, before its RETURN is decided: DISABLED where enabled is no, DARK where
the track is in CUTOFF (R89, R111 ① to ⑤). -/
def Crossover.restarted (cutoff : Bool) (c : Crossover) : Crossover :=
  { c with
    staged := none, status := .none, zone := [], last := none, lastNew := false, previous := none
    state := if !c.config.enabled then .disabled else if cutoff then .dark else .returning }

/-- An enabled crossover has a RETURN decided (R111 ⑤). -/
def resyncEnabled (s : State) (x : CrossNo) : State :=
  if (s.cross x).config.enabled then decideReturn x s else s

/-- The crossovers and the command queue after RESTART, by the track state the reset leaves (R111). -/
def restartCrossovers (s : State) : State :=
  let cleared := { s with
    commands := []
    crossovers := mapTable (Crossover.restarted (s.track == .cutoff)) s.crossovers }
  if s.track = .cutoff then cleared else (List.finRange 16).foldl resyncEnabled cleared

/-- The transmitter after RESTART: the frame on the line is sent to its end, the parts behind it are discarded
(R148, R160). -/
def Transmitter.restarted : Transmitter → Transmitter
  | .free => .free
  | .sending frame _ => .sending frame []

/-- The reset RESTART makes (R156). The rail frame on the line is sent to its end (R128 ②). -/
def restartPart (s : State) : State :=
  let s := { s with resetCause := .restart, time := 0 }
  let s := { s with track := if s.faultLine then .cutoff else .halt }
  let s := { s with
    handsets := Vector.replicate 12 none
    windows := []
    slots := mapTable Slot.restarted s.slots
    holding := .default
    sectionRx := [], handRx := []
    roundNumber := 0, framePos := 0, railFresh := true
    out :=
      { replies := [], echoes := [], notices := [], overrun := false
        transmitter := s.out.transmitter.restarted } }
  queueNotice (.started .restart) (restartCrossovers s)

/-- RESTART: with arguments it is refused BAD_LENGTH, otherwise it is the reset, without a reply (R156). -/
def restartRequest (tag : Byte) (args : List Byte) (s : State) : State :=
  match args with
  | [] => restartPart s
  | _ => refuse tag 0x7F .badLength s

/-- RESTART (R144, R156). -/
def execRestart (tag : Byte) (args : List Byte) (s : State) : Result :=
  .next (onRequest (restartRequest tag args) s)

/-! ### Power-on -/

/-- POWER_ON_RESET (R141, R157): the reset state, the track by the fault line's level. The commands waiting and
the count of free values are the model's and are kept. -/
def execPowerOnReset (lineAsserted : Bool) (s : State) : Result :=
  .next { State.reset with
    track := if lineAsserted then .cutoff else .halt
    faultLine := lineAsserted
    pending := s.pending
    freeDraws := s.freeDraws }

end Sys2Proof.Machine
end

