-- ==== Sys2Proof/Machine/SlotRequests.lean ====
section
/-! DEFINITION. The requests on handsets and slots: PROFILE_FIRST, PROFILE_SECOND, BIND, UNBIND, FORGET,
SET_PACE, WISH (Chapters 1 to 3). -/

namespace Sys2Proof.Machine

/-- PROFILE-FIRST(k, DB, G, curve); k is carried but not examined (R19). -/
def profileFirstRequest (tag : Byte) (args : List Byte) (s : State) : State :=
  match args with
  | [_, db, gainHi, gainLo, curve] =>
    answer tag 0x10 [] { s with holding := holdingArgs db gainHi gainLo curve }
  | _ => refuse tag 0x10 .badLength s

/-- PROFILE-FIRST (R19). -/
def execProfileFirst (tag : Byte) (args : List Byte) (s : State) : Result :=
  .next (onRequest (profileFirstRequest tag args) s)

/-- PROFILE-SECOND(k, CEIL, MINRUN, RISE, DECAY, policy) (R20). -/
def profileSecondRequest (tag : Byte) (args : List Byte) (s : State) : State :=
  match args with
  | [b, ceil, minrun, rise, decay, policy] =>
    match slotArg b with
    | some k =>
      let p := profileArgs s.holding ceil minrun rise decay policy
      answer tag 0x11 [] (s.setSlot k { s.slot k with pendingProfile := some p })
    | none => refuse tag 0x11 .badIndex s
  | _ => refuse tag 0x11 .badLength s

/-- PROFILE-SECOND (R20). -/
def execProfileSecond (tag : Byte) (args : List Byte) (s : State) : Result :=
  .next (onRequest (profileSecondRequest tag args) s)

/-- Slot `k` is taken from handset `g` other than `h`: g's bound slot becomes absent and RELEASED goes to g
(R49 ③). -/
def takeFromOther (h : EntryNo) (k : SlotNo) (s : State) : State :=
  match (s.slot k).source with
  | .handset g => if g = h then s else echoTo g .released (setBound g none s)
  | .pace _ => s
  | .none => s

/-- The binding of `h` to a slot other than `k` is broken (R49 ②). -/
def breakOther (h : EntryNo) (k : SlotNo) (s : State) : State :=
  match (s.entry h).boundSlot with
  | some j => if j = k then s else breakBinding h j s
  | none => s

/-- The effect of an accepted BIND(h, k) (R49). -/
def bindHandset (h : EntryNo) (k : SlotNo) (s : State) : State :=
  let s := closeIfOpen h .superseded s
  let s := breakOther h k s
  let s := takeFromOther h k s
  let s := makeBinding h k s
  echoTo h (.bound k) s

/-- A slot record's source is PACE. -/
def Source.isPace : Source → Bool
  | .pace _ => true
  | .handset _ => false
  | .none => false

/-- BIND(h, s) (R48, R49). -/
def bindRequest (tag : Byte) (args : List Byte) (s : State) : State :=
  match args with
  | [a, b] =>
    match entryArg a, slotArg b with
    | some h, some k =>
      if (s.entry h).isNone then refuse tag 0x20 .noHandset s
      else if (s.slot k).source.isPace then refuse tag 0x20 .slotPace s
      else answer tag 0x20 [] (bindHandset h k s)
    | _, _ => refuse tag 0x20 .badIndex s
  | _ => refuse tag 0x20 .badLength s

/-- BIND (R48, R49). -/
def execBind (tag : Byte) (args : List Byte) (s : State) : Result :=
  .next (onRequest (bindRequest tag args) s)

/-- The effect of UNBIND(k) by the slot's source (R29). -/
def unbindSlot (k : SlotNo) (s : State) : State :=
  match (s.slot k).source with
  | .handset h => echoTo h .released (breakBinding h k (closeIfOpen h .superseded s))
  | .pace _ => s.setSlot k { s.slot k with source := .none, wish := false }
  | .none => s

/-- UNBIND(k) (R29). -/
def unbindRequest (tag : Byte) (args : List Byte) (s : State) : State :=
  match args with
  | [b] =>
    match slotArg b with
    | some k => answer tag 0x21 [] (unbindSlot k s)
    | none => refuse tag 0x21 .badIndex s
  | _ => refuse tag 0x21 .badLength s

/-- UNBIND (R29). -/
def execUnbind (tag : Byte) (args : List Byte) (s : State) : Result :=
  .next (onRequest (unbindRequest tag args) s)

/-- FORGET(h): the window closes SUPERSEDED and the entry leaves the table (R14). -/
def forgetRequest (tag : Byte) (args : List Byte) (s : State) : State :=
  match args with
  | [b] =>
    match entryArg b with
    | some h =>
      if (s.entry h).isNone then refuse tag 0x22 .noHandset s
      else answer tag 0x22 [] (releaseHandset h (closeIfOpen h .superseded s))
    | none => refuse tag 0x22 .badIndex s
  | _ => refuse tag 0x22 .badLength s

/-- FORGET (R14). -/
def execForget (tag : Byte) (args : List Byte) (s : State) : Result :=
  .next (onRequest (forgetRequest tag args) s)

/-- A slot record's source is HANDSET. -/
def Source.isHandset : Source → Bool
  | .handset _ => true
  | .pace _ => false
  | .none => false

/-- SET-PACE(k, step) (R30). -/
def setPaceRequest (tag : Byte) (args : List Byte) (s : State) : State :=
  match args with
  | [b, step] =>
    match slotArg b with
    | some k =>
      if (s.slot k).source.isHandset then refuse tag 0x23 .slotBound s
      else answer tag 0x23 []
        (s.setSlot k { s.slot k with source := .pace (clamp 0 63 step.toNat) })
    | none => refuse tag 0x23 .badIndex s
  | _ => refuse tag 0x23 .badLength s

/-- SET-PACE (R30). -/
def execSetPace (tag : Byte) (args : List Byte) (s : State) : Result :=
  .next (onRequest (setPaceRequest tag args) s)

/-- WISH(k, armed) (R31). -/
def wishRequest (tag : Byte) (args : List Byte) (s : State) : State :=
  match args with
  | [b, armed] =>
    match slotArg b with
    | some k =>
      if (s.slot k).source.isPace then answer tag 0x24 [] (setWish k (flagArg armed) s)
      else refuse tag 0x24 .notPace s
    | none => refuse tag 0x24 .badIndex s
  | _ => refuse tag 0x24 .badLength s

/-- WISH (R31). -/
def execWish (tag : Byte) (args : List Byte) (s : State) : Result :=
  .next (onRequest (wishRequest tag args) s)

end Sys2Proof.Machine
end

