-- ==== Sys2Proof/Machine/Beacon.lean ====
section
/-! DEFINITION. The Beacon Matcher's distances and classification, and SIGHTING (Chapters 4 and 5). -/

namespace Sys2Proof.Machine

/-- The absolute difference of two numbers. -/
def absDiff (a b : Nat) : Nat := (a - b) + (b - a)

/-- The distance between two pairs (R54). -/
def distance (a b : Code) : Nat := absDiff a.cycle b.cycle + absDiff a.duty b.duty

/-- The slot whose code lies within the tolerance of a measurement, or UNKNOWN (R62). -/
def classify (s : State) (measured : Code) : Option SlotNo :=
  (List.finRange 8).find? fun k => match s.code k with
    | some c => distance measured c ≤ s.tolerance
    | none => false

/-- The three sensors of a section (5.1(1)). -/
inductive Sensor where
  | a
  | exit (sensor : ExitSensor)
deriving DecidableEq, Repr

/-- The sensor a SIGHTING's byte names (Table 12-12). -/
def sensorArg (b : Byte) : Option Sensor :=
  if b = 0 then some .a else if b = 1 then some (.exit .xs) else if b = 2 then some (.exit .xd) else none

/-- The Crossover Controller takes a sighting at crossover `x` when it is active: from A an approach, from XS
or XD an exit (R64, R69). -/
def crossSighting (x : CrossNo) (sensor : Sensor) (slot : Option SlotNo) (s : State) : State :=
  if (s.cross x).state.active then
    match sensor with
    | .a => takeApproach x slot s
    | .exit e => takeExit x e slot s
  else s

/-- The Pairing Unit will act on the sighting (R43). -/
def willPair (slot : Option SlotNo) (s : State) : Bool :=
  match slot with
  | some k => eligible k s
  | none => false

/-- A classified sighting is handed to the Pairing Unit and the Crossover Controller (R64). Where both act on
it, which takes it first is a free value (R65, DESIGN CHOICE, log entry 5). -/
def handSighting (x : CrossNo) (sensor : Sensor) (slot : Option SlotNo) (s : State) : State :=
  if willPair slot s && (s.cross x).state.active then
    if Config.pairingTakesFirst s.freeDraws then
      crossSighting x sensor slot (pairSighting slot s.draw)
    else pairSighting slot (crossSighting x sensor slot s.draw)
  else crossSighting x sensor slot (pairSighting slot s)

/-- The Beacon Matcher takes a SIGHTING report: a malformed one is discarded (R61), any other is classified
and handed on (R62, R64). -/
def takeSighting (x : CrossNo) (sensor p w : Byte) (s : State) : State :=
  match sensorArg sensor with
  | none => s
  | some sen =>
    if p = 0 ∨ p.toNat < w.toNat then s
    else handSighting x sen (classify s { cycle := p.toNat, duty := w.toNat }) s

/-- SIGHTING (R61 to R65, R72 to R88). The frame is complete, so the port hunts again (R108). -/
def execSighting (x : CrossNo) (sensor p w : Byte) (s : State) : Result :=
  .next (takeSighting x sensor p w { s with sectionRx := [] })

end Sys2Proof.Machine
end

