-- ==== Sys2Proof/Machine/TableRequests.lean ====
section
/-! DEFINITION. The requests on beacons, crossovers, the track and the link parameters: BEACON, BEACON_CLEAR,
TOLERANCE, CROSSOVER_SET, CROSSOVER_CLEAR, TRACK, CLEAR_CUTOFF, LINK_SET (Chapters 4, 6, 9, 11). -/

namespace Sys2Proof.Machine

/-! ### Beacon Matcher -/

/-- Two codes are within twice a tolerance of each other (R54). -/
def clash (t : Nat) (a b : Option Code) : Bool :=
  match a, b with
  | some a, some b => distance a b ≤ 2 * t
  | some _, none => false
  | none, _ => false

/-- The lowest-numbered other slot whose code clashes with a new code of slot `k` (R56). -/
def beaconClash (s : State) (k : SlotNo) (new : Code) : Option SlotNo :=
  (List.finRange 8).find? fun j => j != k && clash s.tolerance (some new) (s.code j)

/-- BEACON(k, C, D) (R55, R56). -/
def beaconRequest (tag : Byte) (args : List Byte) (s : State) : State :=
  match args with
  | [b, cHi, cLo, dHi, dLo] =>
    match slotArg b with
    | some k =>
      let new := codeArgs cHi cLo dHi dLo
      match beaconClash s k new with
      | some j => refuseWith tag 0x30 .codeClash [byte (j.val + 1)] s
      | none => answer tag 0x30 [byte new.cycle, byte new.duty] (s.setCode k (some new))
    | none => refuse tag 0x30 .badIndex s
  | _ => refuse tag 0x30 .badLength s

/-- BEACON (R55, R56). -/
def execBeacon (tag : Byte) (args : List Byte) (s : State) : Result :=
  .next (onRequest (beaconRequest tag args) s)

/-- BEACON-CLEAR(k) (R57). -/
def beaconClearRequest (tag : Byte) (args : List Byte) (s : State) : State :=
  match args with
  | [b] =>
    match slotArg b with
    | some k => answer tag 0x31 [] (s.setCode k none)
    | none => refuse tag 0x31 .badIndex s
  | _ => refuse tag 0x31 .badLength s

/-- BEACON-CLEAR (R57). -/
def execBeaconClear (tag : Byte) (args : List Byte) (s : State) : Result :=
  .next (onRequest (beaconClearRequest tag args) s)

/-- The first pair j < k whose codes lie within twice `t`: the lowest j, and for that j the lowest k (R58). -/
def toleranceClash (s : State) (t : Nat) : Option (SlotNo × SlotNo) :=
  ((List.finRange 8).flatMap fun j => (List.finRange 8).map fun k => (j, k)).find? fun jk =>
    decide (jk.1 < jk.2) && clash t (s.code jk.1) (s.code jk.2)

/-- TOLERANCE(t) (R58). -/
def toleranceRequest (tag : Byte) (args : List Byte) (s : State) : State :=
  match args with
  | [b] =>
    let t := clamp 1 63 b.toNat
    match toleranceClash s t with
    | some (j, k) => refuseWith tag 0x32 .codeClash [byte (j.val + 1), byte (k.val + 1)] s
    | none => answer tag 0x32 [byte t] { s with tolerance := t }
  | _ => refuse tag 0x32 .badLength s

/-- TOLERANCE (R58). -/
def execTolerance (tag : Byte) (args : List Byte) (s : State) : Result :=
  .next (onRequest (toleranceRequest tag args) s)

/-! ### Crossover Controller -/

/-- Whether a configuration is applied at once (R104). -/
def CrossState.appliesAtOnce : CrossState → Bool
  | .opened | .disabled | .fault | .dark => true
  | .passing | .throwing | .diverted | .holding | .returning => false

/-- A configuration loaded for crossover `x`: applied, any staged one discarded, or staged (R104). -/
def loadConfig (x : CrossNo) (g : CrossConfig) (s : State) : State :=
  let c := s.cross x
  if c.state.appliesAtOnce then applyConfig x g (s.setCross x { c with staged := none })
  else s.setCross x { c with staged := some g }

/-- CROSSOVER-SET(x, enable, pulse, dead, confirm, clear); the reply carries the configuration as clamped and
0 applied or 1 staged (R104). -/
def crossoverSetRequest (tag : Byte) (args : List Byte) (s : State) : State :=
  match args with
  | [b, enable, pulse, dead, confirm, clearHi, clearLo] =>
    match crossArg b with
    | some x =>
      let g := configArgs enable pulse dead confirm clearHi clearLo
      let staged := !(s.cross x).state.appliesAtOnce
      answer tag 0x40 (configBytes (freeBits s 0) g ++ [byte staged.toNat]) (loadConfig x g s).draw
    | none => refuse tag 0x40 .badIndex s
  | _ => refuse tag 0x40 .badLength s

/-- CROSSOVER-SET (R104 to R107). -/
def execCrossoverSet (tag : Byte) (args : List Byte) (s : State) : Result :=
  .next (onRequest (crossoverSetRequest tag args) s)

/-- CROSSOVER-CLEAR(x) (R100). -/
def crossoverClearRequest (tag : Byte) (args : List Byte) (s : State) : State :=
  match args with
  | [b] =>
    match crossArg b with
    | some x =>
      if (s.cross x).state ≠ .fault then refuse tag 0x41 .notFaulted s
      else if !(s.cross x).zone.isEmpty then refuse tag 0x41 .zoneBusy s
      else answer tag 0x41 [] (decideReturn x s)
    | none => refuse tag 0x41 .badIndex s
  | _ => refuse tag 0x41 .badLength s

/-- CROSSOVER-CLEAR (R100). -/
def execCrossoverClear (tag : Byte) (args : List Byte) (s : State) : Result :=
  .next (onRequest (crossoverClearRequest tag args) s)

/-! ### Track Supervisor -/

/-- TRACK(state, cap); the reply carries state and cap as stored (R136). -/
def trackRequest (tag : Byte) (args : List Byte) (s : State) : State :=
  match args with
  | [b, cap] =>
    if s.track = .cutoff then refuse tag 0x50 .cutoffActive s
    else
      let s := { s with track := trackArg b, cap := clamp 0 63 cap.toNat }
      answer tag 0x50 [byte s.track.code, byte s.cap] s
  | _ => refuse tag 0x50 .badLength s

/-- TRACK (R136). -/
def execTrack (tag : Byte) (args : List Byte) (s : State) : Result :=
  .next (onRequest (trackRequest tag args) s)

/-- A DARK crossover is brought back: DISABLED where its configuration has enabled no, otherwise RETURNING by
a RETURN (R139 ④). -/
def resyncDark (s : State) (x : CrossNo) : State :=
  let c := s.cross x
  if c.state = .dark then
    if c.config.enabled then decideReturn x s else s.setCross x { c with state := .disabled }
  else s

/-- The effect of an accepted CLEAR-CUTOFF, the crossovers in number order (R139). -/
def leaveCutoff (s : State) : State :=
  queueNotice .cutoffCleared ((List.finRange 16).foldl resyncDark { s with track := .halt })

/-- CLEAR-CUTOFF (R139). -/
def clearCutoffRequest (tag : Byte) (args : List Byte) (s : State) : State :=
  match args with
  | [] =>
    if s.faultLine then refuse tag 0x51 .lineActive s
    else if s.track ≠ .cutoff then refuse tag 0x51 .notCutoff s
    else answer tag 0x51 [] (leaveCutoff s)
  | _ => refuse tag 0x51 .badLength s

/-- CLEAR-CUTOFF (R139). -/
def execClearCutoff (tag : Byte) (args : List Byte) (s : State) : Result :=
  .next (onRequest (clearCutoffRequest tag args) s)

/-! ### Link parameters -/

/-- LINK-SET(silence, release, window); the reply carries the three values as stored (R2, R37, R155). -/
def linkSetRequest (tag : Byte) (args : List Byte) (s : State) : State :=
  match args with
  | [silenceHi, silenceLo, releaseHi, releaseLo, window] =>
    let s := { s with
      silenceLimit := clamp 50 2000 (be16 silenceHi silenceLo)
      releaseLimit := clamp 0 255 (be16 releaseHi releaseLo)
      windowLength := clamp 1 60 window.toNat }
    answer tag 0x60 (bytes16 s.silenceLimit ++ [byte s.releaseLimit, byte s.windowLength]) s
  | _ => refuse tag 0x60 .badLength s

/-- LINK-SET (R155). -/
def execLinkSet (tag : Byte) (args : List Byte) (s : State) : Result :=
  .next (onRequest (linkSetRequest tag args) s)

end Sys2Proof.Machine
end

