-- ==== Sys2Proof/Machine/Ports.lean ====
section
/-! DEFINITION. The two receiving ports byte by byte, UNKNOWN_REQUEST, and the transmitter's frame end
(Chapters 6, 10 and 12). -/

namespace Sys2Proof.Machine

/-! ### Routing -/

/-- The request a code names, by Table 12-4; any other code is answered UNKNOWN_REQUEST (R151 ①, R159). -/
def requestByCode (tag code : Byte) (args : List Byte) : State → State :=
  match code with
  | 0x01#8 => statusRequest tag args
  | 0x02#8 => readHandsetRequest tag args
  | 0x03#8 => readSlotRequest tag args
  | 0x04#8 => readCrossoverRequest tag args
  | 0x05#8 => readWindowsRequest tag args
  | 0x10#8 => profileFirstRequest tag args
  | 0x11#8 => profileSecondRequest tag args
  | 0x20#8 => bindRequest tag args
  | 0x21#8 => unbindRequest tag args
  | 0x22#8 => forgetRequest tag args
  | 0x23#8 => setPaceRequest tag args
  | 0x24#8 => wishRequest tag args
  | 0x30#8 => beaconRequest tag args
  | 0x31#8 => beaconClearRequest tag args
  | 0x32#8 => toleranceRequest tag args
  | 0x40#8 => crossoverSetRequest tag args
  | 0x41#8 => crossoverClearRequest tag args
  | 0x50#8 => trackRequest tag args
  | 0x51#8 => clearCutoffRequest tag args
  | 0x60#8 => linkSetRequest tag args
  | 0x7F#8 => restartRequest tag args
  | _ => refuse tag code .unknownRequest

/-- UNKNOWN_REQUEST (R151 ①, R152). A code that is in Table 12-4 is taken as the request it names (DESIGN CHOICE,
log entry 12). -/
def execUnknownRequest (tag code : Byte) (args : List Byte) (s : State) : Result :=
  .next (onRequest (requestByCode tag code args) s)

/-- A complete hand link frame is routed by its kind: a SAMPLE, a REQUEST of at least 2 bytes, or discarded
(R143). -/
def routeFrame (kind : Byte) (payload : List Byte) (s : State) : State :=
  if kind = Config.kindSample then routeSample payload { s with handRx := [] }
  else if kind = Config.kindRequest then
    match payload with
    | tag :: code :: args => onRequest (requestByCode tag code args) s
    | _ => { s with handRx := [] }
  else { s with handRx := [] }

/-! ### Hand link reception (R142) -/

/-- One byte at the hand link: what the assembly buffer then holds, and the kind and payload of a frame it
completes. The buffer holds the frame from its start byte on (R142). -/
def handRxByte (buffer : List Byte) (b : Byte) : List Byte × Option (Byte × List Byte) :=
  match buffer with
  | [] => (if b = Config.handStart then [b] else [], none)
  | [start] => ([start, b], none)
  | [start, kind] => (if Config.maxPayload < b.toNat then [] else [start, kind, b], none)
  | start :: kind :: length :: payload =>
    if payload.length < length.toNat then (start :: kind :: length :: payload ++ [b], none)
    else if b = checkByte (kind :: length :: payload) then ([], some (kind, payload))
    else ([], none)

/-- Bytes received on the hand link one after another: each complete frame is routed when its check byte is
taken (R142, R143). -/
def receiveHand (bytes : List Byte) (s : State) : State :=
  match bytes with
  | [] => s
  | b :: rest =>
    match handRxByte s.handRx b with
    | (buffer, none) => receiveHand rest { s with handRx := buffer }
    | (buffer, some (kind, payload)) =>
      receiveHand rest (routeFrame kind payload { s with handRx := buffer })

/-- HAND_LINK_FRAME_DISCARD (R142, R143): bytes that make up frames the port discards leave no trace but the
buffer; a frame among them that passes is routed (DESIGN CHOICE, log entry 7). -/
def execHandLinkFrameDiscard (bytes : List Byte) (s : State) : Result := .next (receiveHand bytes s)

/-- HAND_LINK_BYTE_TIMEOUT: the partial frame is dropped (R142). -/
def execHandLinkByteTimeout (s : State) : Result := .next { s with handRx := [] }

/-! ### Section line reception (R108) -/

/-- A report that passes the checks of R108. -/
inductive Report where
  | sighting (x : CrossNo) (sensor p w : Byte)
  | position (x : CrossNo) (pos : Position)
deriving DecidableEq, Repr

/-- The crossover number in bits 0..3 of a head byte (Table 12-12). -/
def headCross (head : Byte) : CrossNo := ⟨head.toNat % 16, by omega⟩

/-- The kind in bits 4..5 of a head byte; bits 6..7 are not examined (Table 12-12 note 1). -/
def headKind (head : Byte) : Nat := head.toNat / 16 % 4

/-- The body bytes a report kind requires: 3 for a SIGHTING, 1 for a POSITION, none for the kinds that are
discarded (R108). -/
def bodyLength (head : Byte) : Option Nat :=
  if headKind head = 0 then some 3 else if headKind head = 1 then some 1 else none

/-- The position a POSITION report's byte names (R108 ②). -/
def positionArg (b : Byte) : Option Position :=
  if b = 0 then some .straight else if b = 1 then some .divert else none

/-- The report of a frame whose check is good; a bad position byte gives none (R108 ②). -/
def reportOf (head : Byte) (body : List Byte) : Option Report :=
  match body with
  | [sensor, p, w] => some (.sighting (headCross head) sensor p w)
  | [b] => (positionArg b).map (.position (headCross head))
  | _ => none

/-- One byte at the section line: what the assembly buffer then holds, and the report it completes (R108). -/
def sectionRxByte (buffer : List Byte) (b : Byte) : List Byte × Option Report :=
  match buffer with
  | [] => (if b = Config.sectionStart then [b] else [], none)
  | [start] => (if (bodyLength b).isSome then [start, b] else [], none)
  | start :: head :: body =>
    if body.length < (bodyLength head).getD 0 then (start :: head :: body ++ [b], none)
    else if b = checkByte (head :: body) then ([], reportOf head body)
    else ([], none)

/-- A report is handed on whole, a SIGHTING to the Beacon Matcher, a POSITION to the Crossover Controller
(R109). -/
def routeReport (r : Report) (s : State) : State :=
  match r with
  | .sighting x sensor p w => takeSighting x sensor p w s
  | .position x pos => takePosition x pos s

/-- Bytes received on the section line one after another: each complete report is handed on when its check byte
is taken (R108, R109). -/
def receiveSection (bytes : List Byte) (s : State) : State :=
  match bytes with
  | [] => s
  | b :: rest =>
    match sectionRxByte s.sectionRx b with
    | (buffer, none) => receiveSection rest { s with sectionRx := buffer }
    | (buffer, some r) => receiveSection rest (routeReport r { s with sectionRx := buffer })

/-- SECTION_FRAME_DISCARD (R108): bytes that make up frames the port discards leave no trace but the buffer; a
report among them that passes is handed on (DESIGN CHOICE, log entry 7). -/
def execSectionFrameDiscard (bytes : List Byte) (s : State) : Result := .next (receiveSection bytes s)

/-- SECTION_BYTE_TIMEOUT: the partial frame is discarded (R108 ③). -/
def execSectionByteTimeout (s : State) : Result := .next { s with sectionRx := [] }

/-! ### The transmitter -/

/-- TRANSMITTER_FRAME_END (R145, R160). A free transmitter has no frame to end. -/
def execTransmitterFrameEnd (s : State) : Result := .next (endFrame s)

end Sys2Proof.Machine
end

