-- ==== Sys2Proof/Machine/Throttle.lean ====
section
/-! DEFINITION. Throttle shaping: the step of a drive frame (Chapter 7). -/

namespace Sys2Proof.Machine

/-- Deadband stage (R114). -/
def deadbandStage (db t : Nat) : Nat := if db < t then t - db else 0

/-- Curve stage (R114). -/
def curveStage (curve : Curve) (u : Nat) : Nat :=
  match curve with
  | .linear => u
  | .progressive => (u * u + 127) / 255

/-- Gain stage (R115). -/
def gainStage (gain u : Nat) : Nat := (u * gain + 128) / 256

/-- Step scale (R115). -/
def scaleStage (v : Nat) : Nat := (v * 63 + 127) / 255

/-- Minimum running step (R116). -/
def minrunStage (minrun q : Nat) : Nat := if 0 < q ∧ q < minrun then minrun else q

/-- The clamps by ceiling and cap (R116, R117). -/
def clampStep (p : Profile) (cap q : Nat) : Nat := min (min q p.ceil) cap

/-- The target a trigger asks for (R114 to R116). -/
def triggerTarget (p : Profile) (cap trigger : Nat) : Nat :=
  clampStep p cap
    (minrunStage p.minrun (scaleStage (gainStage p.gain (curveStage p.curve (deadbandStage p.db trigger)))))

/-- The target of a pace slot (R117). -/
def paceTarget (p : Profile) (cap step : Nat) : Nat := clampStep p cap step

/-- The rise limit (R118). -/
def riseLimited (p : Profile) (last target : Nat) : Nat := min target (last + p.rise)

/-- The failsafe decay (R119). -/
def decayed (p : Profile) (cap last : Nat) : Nat := clampStep p cap (last - p.decay)

/-- The stored trigger of entry `h`; a FREE entry, which no slot's source names (R17), holds none and asks for
nothing (DESIGN CHOICE, log entry 13). -/
def storedTrigger (s : State) (h : EntryNo) : Nat :=
  match s.entry h with
  | some e => e.sample.trigger.toNat
  | none => 0

/-- The step of slot `k`'s drive frame, by the first row of Table 7-2 that holds (R113). -/
def driveStep (s : State) (k : SlotNo) : Nat :=
  let r := s.slot k
  match s.track, r.source with
  | .halt, _ => 0
  | .cutoff, _ => 0
  | .run, .none => 0
  | .run, .handset h =>
    if r.failsafe then decayed r.active s.cap r.lastStep
    else riseLimited r.active r.lastStep (triggerTarget r.active s.cap (storedTrigger s h))
  | .run, .pace p => riseLimited r.active r.lastStep (paceTarget r.active s.cap p)

/-- The wish after a profile with policy `new` replaces one with policy `old` (R22). -/
def wishAfterPolicy (s : State) (r : Slot) (old new : Policy) : Bool :=
  if new = .hold ∧ old ≠ .hold then
    match r.source with
    | .handset h =>
      match s.entry h with
      | some e => (Entry.isLive (some e)) && e.sample.lc
      | none => false
    | .pace _ => false
    | .none => false
  else r.wish

/-- A pending profile of slot `k` becomes its active profile (R21, R22). -/
def applyPending (k : SlotNo) (s : State) : State :=
  let r := s.slot k
  match r.pendingProfile with
  | none => s
  | some p => s.setSlot k
      { r with active := p, pendingProfile := none, wish := wishAfterPolicy s r r.active.policy p.policy }

end Sys2Proof.Machine
end

