-- ==== Sys2Proof/Machine/Rail.lean ====
section
/-! DEFINITION. The Rail Sequencer's events: the four kinds of rail frame, in the fixed order of Table 8-1
(Chapter 8). A frame out of its place in the round is not formed (R126, DEDUCED, log entry 4). -/

namespace Sys2Proof.Machine

/-- The frame formed last stood at position `p` of a round begun since the reset. -/
def frameFormedAt (s : State) (p : Nat) : Bool := !s.railFresh && s.framePos.val == p

/-- The Rail Sequencer comes to position `p`, and the frame formed there goes on the line (R126, R127). -/
def putFrame (p : Fin 12) (f : RailFrame) (s : State) : State :=
  { s with framePos := p, railFresh := false, railLine := some f }

/-- The round number of the head frame: 0 for the first round after a reset, advanced by one after that
(R128). -/
def nextRound (s : State) : BitVec 8 := if s.railFresh then 0 else s.roundNumber + 1

/-- HEAD_FRAME (R128, R129). It follows a reset or the code frame of the round before. -/
def execHeadFrame (s : State) : Result :=
  .next (if s.railFresh || s.framePos.val == 11 then
    let s := { s with roundNumber := nextRound s }
    putFrame 0 (.head s.roundNumber s.track s.cap) s
  else s)

/-- The drive frame of slot `k`: the pending profile is applied, the step found, the last step written and the
frame formed with its four flags (R112, R122). -/
def formDrive (k : SlotNo) (s : State) : State :=
  let s := applyPending k s
  let step := driveStep s k
  let r := { s.slot k with lastStep := step }
  putFrame ⟨k.val + 1, by omega⟩
    (.drive k step (step == 0) r.wish r.failsafe (r.source != .none)) (s.setSlot k r)

/-- DRIVE_FRAME (R112, R130). The drive frame of slot number k is frame k of the round. -/
def execDriveFrame (k : SlotNo) (s : State) : Result :=
  .next (if frameFormedAt s k.val then formDrive k s else s)

/-- The head command leaves the queue in a gate frame: its crossover is SENT with its confirm deadline, and
the room is given to an OWED RETURN; an empty queue gives an idle frame (R101, R102, R131). -/
def formGate (p : Fin 12) (s : State) : State :=
  match s.commands with
  | [] => putFrame p (.gate none) s
  | d :: rest =>
    let c := s.cross d.crossover
    let sent := { s with commands := rest }.setCross d.crossover
      { c with status := .sent d.kind (s.after c.config.confirm) }
    putFrame p (.gate (some d)) (serveOwed sent)

/-- GATE_FRAME (R131). It is frame 9 or frame 10 of the round. -/
def execGateFrame (s : State) : Result :=
  .next (if frameFormedAt s 8 then formGate 9 s
    else if frameFormedAt s 9 then formGate 10 s
    else s)

/-- The slot whose code round `r` carries, (r mod 8) + 1 (R59). -/
def codeSlot (r : BitVec 8) : SlotNo := ⟨r.toNat % 8, by omega⟩

/-- CODE_FRAME (R59, R133). It is frame 11 of the round. -/
def execCodeFrame (s : State) : Result :=
  .next (if frameFormedAt s 10 then putFrame 11 (.code (s.code (codeSlot s.roundNumber))) s else s)

end Sys2Proof.Machine
end

