-- ==== Sys2Proof/Machine/Dispatch.lean ====
section
/-! DEFINITION. The effect of a command on everything but the queue: one arm per constructor, each one direct
call of its meaning. -/

namespace Sys2Proof.Machine

def exec (i : Instr) (s : State) : Host.Outcome State Fault Refusal :=
  match i with
  | .sample payload => Sys2Proof.Machine.execSample payload s
  | .silenceExpiry h => Sys2Proof.Machine.execSilenceExpiry h s
  | .releaseExpiry h => Sys2Proof.Machine.execReleaseExpiry h s
  | .windowExpiry h => Sys2Proof.Machine.execWindowExpiry h s
  | .sighting x sensor p w => Sys2Proof.Machine.execSighting x sensor p w s
  | .clearDeadlineExpiry x k => Sys2Proof.Machine.execClearDeadlineExpiry x k s
  | .guardElapse x => Sys2Proof.Machine.execGuardElapse x s
  | .position x pos => Sys2Proof.Machine.execPosition x pos s
  | .confirmDeadlineExpiry x => Sys2Proof.Machine.execConfirmDeadlineExpiry x s
  | .sectionFrameDiscard bytes => Sys2Proof.Machine.execSectionFrameDiscard bytes s
  | .sectionByteTimeout => Sys2Proof.Machine.execSectionByteTimeout s
  | .handLinkFrameDiscard bytes => Sys2Proof.Machine.execHandLinkFrameDiscard bytes s
  | .handLinkByteTimeout => Sys2Proof.Machine.execHandLinkByteTimeout s
  | .unknownRequest tag code args => Sys2Proof.Machine.execUnknownRequest tag code args s
  | .status tag args => Sys2Proof.Machine.execStatus tag args s
  | .readHandset tag args => Sys2Proof.Machine.execReadHandset tag args s
  | .readSlot tag args => Sys2Proof.Machine.execReadSlot tag args s
  | .readCrossover tag args => Sys2Proof.Machine.execReadCrossover tag args s
  | .readWindows tag args => Sys2Proof.Machine.execReadWindows tag args s
  | .profileFirst tag args => Sys2Proof.Machine.execProfileFirst tag args s
  | .profileSecond tag args => Sys2Proof.Machine.execProfileSecond tag args s
  | .bind tag args => Sys2Proof.Machine.execBind tag args s
  | .unbind tag args => Sys2Proof.Machine.execUnbind tag args s
  | .forget tag args => Sys2Proof.Machine.execForget tag args s
  | .setPace tag args => Sys2Proof.Machine.execSetPace tag args s
  | .wish tag args => Sys2Proof.Machine.execWish tag args s
  | .beacon tag args => Sys2Proof.Machine.execBeacon tag args s
  | .beaconClear tag args => Sys2Proof.Machine.execBeaconClear tag args s
  | .tolerance tag args => Sys2Proof.Machine.execTolerance tag args s
  | .crossoverSet tag args => Sys2Proof.Machine.execCrossoverSet tag args s
  | .crossoverClear tag args => Sys2Proof.Machine.execCrossoverClear tag args s
  | .track tag args => Sys2Proof.Machine.execTrack tag args s
  | .clearCutoff tag args => Sys2Proof.Machine.execClearCutoff tag args s
  | .linkSet tag args => Sys2Proof.Machine.execLinkSet tag args s
  | .restart tag args => Sys2Proof.Machine.execRestart tag args s
  | .powerOnReset lineAsserted => Sys2Proof.Machine.execPowerOnReset lineAsserted s
  | .faultLineAsserted => Sys2Proof.Machine.execFaultLineAsserted s
  | .faultLineReleased => Sys2Proof.Machine.execFaultLineReleased s
  | .headFrame => Sys2Proof.Machine.execHeadFrame s
  | .driveFrame k => Sys2Proof.Machine.execDriveFrame k s
  | .gateFrame => Sys2Proof.Machine.execGateFrame s
  | .codeFrame => Sys2Proof.Machine.execCodeFrame s
  | .transmitterFrameEnd => Sys2Proof.Machine.execTransmitterFrameEnd s

end Sys2Proof.Machine
end

