-- ==== Sys2Proof/Safety.lean ====
section
/-! DEFINITION. What holds of the part at every moment, by the numbered rules: the invariants the statements
use. Each is a decidable predicate of one state. -/

namespace Sys2Proof.Machine

/-! ### The outbound queues -/

/-- The reply, echo and notice queues keep their bounds (R144, R146, R147), and a free transmitter leaves no
frame waiting (R145). -/
abbrev LinkInv (s : State) : Prop :=
  s.out.replies.length ≤ 4 ∧ s.out.echoes.length ≤ 8 ∧ s.out.notices.length ≤ 32 ∧
  (s.out.transmitter = .free → s.out.replies = [] ∧ s.out.echoes = [] ∧ s.out.notices = [])

/-! ### The receive buffers -/

/-- What the hand link port has assembled of one frame: nothing, or its bytes from the start byte on, with a length of
at most 24 and short of the check byte (R142, Table 12-1). -/
abbrev PartialHandFrame (buffer : List Byte) : Prop :=
  buffer = [] ∨ (buffer[0]? = some 0xC3 ∧
    ∀ n ∈ buffer[2]?, n.toNat ≤ 24 ∧ buffer.length ≤ 3 + n.toNat)

/-- What the section line port has assembled of one report: nothing, or its bytes from the start byte on, of a kind
that is not discarded and short of the check byte (R108, Table 12-12). -/
abbrev PartialReport (buffer : List Byte) : Prop :=
  buffer = [] ∨ (buffer[0]? = some 0xB4 ∧ ∀ head ∈ buffer[1]?,
    (head.toNat / 16 % 4 = 0 ∧ buffer.length ≤ 5) ∨ (head.toNat / 16 % 4 = 1 ∧ buffer.length ≤ 3))

/-- The two receive buffers hold a frame in part (R108, R142). -/
abbrev ReceiveInv (s : State) : Prop := PartialHandFrame s.handRx ∧ PartialReport s.sectionRx

/-! ### Windows and bindings -/

/-- The window list holds at most 4 windows, no two for one entry, and an entry's open window field is yes
exactly while the list holds a window for it; so every window's entry is LIVE (R36). -/
abbrev WindowInv (s : State) : Prop :=
  s.windows.length ≤ 4 ∧ (s.windows.map (·.entry)).Nodup ∧
  ∀ h : EntryNo, (s.entry h).window = hasWindow h s

/-- Slot k's source is HANDSET(h) if and only if entry h's bound slot is k (R17). -/
abbrev BindingAgrees (s : State) : Prop :=
  ∀ (h : EntryNo) (k : SlotNo), (s.slot k).source = .handset h ↔ (s.entry h).boundSlot = some k

/-- The failsafe flag is set while the source is HANDSET(h) with entry h LOST, and clear otherwise (R26). -/
abbrev FailsafeAgrees (s : State) : Prop :=
  ∀ k : SlotNo, (s.slot k).failsafe = match (s.slot k).source with
    | .handset h => (s.entry h).isLost
    | .pace _ => false
    | .none => false

/-- A slot whose source is NONE is disarmed (R17). -/
abbrev NoneDisarmed (s : State) : Prop :=
  ∀ k : SlotNo, (s.slot k).source = .none → (s.slot k).wish = false

/-- Windows, bindings, failsafe flags and disarmed NONE slots together. -/
abbrev BindingInv (s : State) : Prop :=
  WindowInv s ∧ BindingAgrees s ∧ FailsafeAgrees s ∧ NoneDisarmed s

/-- The radio ID of an entry, absent while FREE. -/
def Entry.radio : Entry → Option RadioId
  | some e => some e.radioId
  | none => none

/-- No two enrolled entries have one radio ID (R3), and none has 0x0000 or 0xFFFF (Table 1-1). -/
abbrev RadioInv (s : State) : Prop :=
  (∀ g h : EntryNo, g ≠ h → (s.entry g).radio = none ∨ (s.entry g).radio ≠ (s.entry h).radio) ∧
  ∀ h : EntryNo, (s.entry h).radio ≠ some 0x0000 ∧ (s.entry h).radio ≠ some 0xFFFF

/-! ### Beacon codes -/

/-- A code within its ranges (R53). -/
abbrev CodeOk (c : Code) : Prop := 16 ≤ c.cycle ∧ c.cycle ≤ 255 ∧ 1 ≤ c.duty ∧ c.duty < c.cycle

/-- The tolerance and the codes are in range (R53), and no two codes lie within twice the tolerance (R54). -/
abbrev BeaconInv (s : State) : Prop :=
  (1 ≤ s.tolerance ∧ s.tolerance ≤ 63) ∧ (∀ k : SlotNo, ∀ c ∈ s.code k, CodeOk c) ∧
  ∀ j k : SlotNo, j ≠ k → ∀ a ∈ s.code j, ∀ b ∈ s.code k, 2 * s.tolerance < distance a b

/-! ### Ranges -/

/-- A profile within Table 2-3 (R18). -/
abbrev ProfileOk (p : Profile) : Prop :=
  p.db ≤ 127 ∧ p.gain ≤ 1023 ∧ p.ceil ≤ 63 ∧ p.minrun ≤ 63 ∧ (1 ≤ p.rise ∧ p.rise ≤ 63) ∧
  (1 ≤ p.decay ∧ p.decay ≤ 63)

/-- The pace step of a source, 0 for a source that is not PACE. -/
def Source.paceStep : Source → Nat
  | .pace p => p
  | .handset _ => 0
  | .none => 0

/-- A slot record within Table 2-1. -/
abbrev SlotOk (r : Slot) : Prop :=
  ProfileOk r.active ∧ (∀ p ∈ r.pendingProfile, ProfileOk p) ∧ r.lastStep ≤ 63 ∧ r.source.paceStep ≤ 63

/-- A configuration within Table 6-3. -/
abbrev ConfigOk (g : CrossConfig) : Prop :=
  (5 ≤ g.pulse ∧ g.pulse ≤ 60) ∧ g.dead ≤ 250 ∧ (10 ≤ g.confirm ∧ g.confirm ≤ 250) ∧
  (100 ≤ g.clear ∧ g.clear ≤ 5000)

/-- Every clamped value is within its range (R2, R18, R37, R53, R101, R104, R135). -/
abbrev RangeInv (s : State) : Prop :=
  (∀ k : SlotNo, SlotOk (s.slot k)) ∧ (∀ k : SlotNo, ∀ c ∈ s.code k, CodeOk c) ∧
  (1 ≤ s.tolerance ∧ s.tolerance ≤ 63) ∧ (s.holding.db ≤ 127 ∧ s.holding.gain ≤ 1023) ∧
  (∀ x : CrossNo, ConfigOk (s.cross x).config ∧ (∀ g ∈ (s.cross x).staged, ConfigOk g) ∧
    ∀ p ∈ (s.cross x).status.owedPulse, 5 ≤ p ∧ p ≤ 60) ∧
  (∀ d ∈ s.commands, 5 ≤ d.pulse ∧ d.pulse ≤ 60) ∧ s.cap ≤ 63 ∧
  (50 ≤ s.silenceLimit ∧ s.silenceLimit ≤ 2000) ∧ s.releaseLimit ≤ 255 ∧
  (1 ≤ s.windowLength ∧ s.windowLength ≤ 60)

/-! ### Crossovers and the section command queue -/

/-- The kind of a command that is queued or sent (R91). -/
def CommandStatus.outstanding : CommandStatus → Option CommandKind
  | .queued kind => some kind
  | .sent kind _ => some kind
  | .none | .owed _ => Option.none

/-- The columns of Table 5-2 for one record (R69, R91): zone queue and command status by state; every active
state but FAULT has enabled yes; HOLDING has the dead time running. -/
abbrev StateColumns (c : Crossover) : Prop :=
  (c.state = .disabled → c.zone = [] ∧ c.status = .none ∧ c.config.enabled = false) ∧
  (c.state = .dark → c.zone = [] ∧ c.status = .none) ∧
  (c.state = .opened → c.zone = [] ∧ c.status = .none ∧ c.config.enabled = true) ∧
  (c.state = .passing → c.zone ≠ [] ∧ c.status = .none ∧ c.config.enabled = true) ∧
  (c.state = .throwing → c.status.outstanding = some .throwing ∧ c.config.enabled = true) ∧
  (c.state = .diverted → c.zone ≠ [] ∧ c.status = .none ∧ c.config.enabled = true) ∧
  (c.state = .holding →
    c.zone = [] ∧ c.status = .none ∧ c.config.enabled = true ∧ c.guardRunning = true) ∧
  (c.state = .returning →
    (c.status.outstanding = some .returning ∨ c.status.owedPulse.isSome = true) ∧
    c.config.enabled = true) ∧
  (c.state = .fault → c.status = .none ∧ (c.config.enabled = false → c.zone ≠ []))

/-- A zone queue holds at most 4 entries and never two of one classified slot (R70), and an entry is wished
exactly when it has a decision other than NONE (R71). -/
abbrev ZoneOk (zone : List ZoneEntry) : Prop :=
  zone.length ≤ 4 ∧ (zone.filterMap (·.slot)).Nodup ∧
  ∀ e ∈ zone, e.wished = (e.decision != .none)

/-- The section command queue holds at most 8 commands, no two of one crossover (R101); it holds a command of a
crossover exactly while that crossover's status is QUEUED with the command's kind; and it holds 8 for as long
as any RETURN is OWED (R102). -/
abbrev CommandInv (s : State) : Prop :=
  s.commands.length ≤ 8 ∧ (s.commands.map (·.crossover)).Nodup ∧
  (∀ d ∈ s.commands, (s.cross d.crossover).status = .queued d.kind) ∧
  (∀ x : CrossNo, (s.cross x).status.isQueued = true → ∃ d ∈ s.commands, d.crossover = x) ∧
  ∀ x : CrossNo, (s.cross x).status.owedPulse.isSome = true → s.commands.length = 8

/-- In CUTOFF every crossover is DISABLED or DARK (R137), DARK occurs only in CUTOFF (Table 5-2), and the line
is asserted only in CUTOFF (R138). -/
abbrev CutoffInv (s : State) : Prop :=
  (s.track = .cutoff → ∀ x : CrossNo, (s.cross x).state = .disabled ∨ (s.cross x).state = .dark) ∧
  (∀ x : CrossNo, (s.cross x).state = .dark → s.track = .cutoff) ∧
  (s.faultLine = true → s.track = .cutoff)

/-- The crossover table and the section command queue together. -/
abbrev CrossInv (s : State) : Prop :=
  (∀ x : CrossNo, StateColumns (s.cross x) ∧ ZoneOk (s.cross x).zone) ∧ CommandInv s ∧ CutoffInv s

/-! ### The words the statements use -/

/-- What a command hands to the outbound side of the hand link. -/
inductive Output where
  | reply (r : Reply)
  | echo (id : RadioId) (body : EchoBody)
  | notice (body : NoticeBody)
deriving DecidableEq, Repr

/-- One output handed on at TIME `now` (R145, R146, R147). -/
def Outbound.hand (now : Time) (o : Outbound) : Output → Outbound
  | .reply r => o.reply r
  | .echo id body => o.echo id body
  | .notice body => o.notice body now

/-- The state after outputs are handed on in order; only the outbound side changes. -/
def emit (outs : List Output) (s : State) : State :=
  { s with out := outs.foldl (Outbound.hand s.time) s.out }

/-- An OK reply of one frame. -/
def okReply (tag code : Byte) (bytes : List Byte) : Output :=
  .reply { tag := tag, code := code, status := .ok, data := .single bytes }

/-- A refusal. -/
def refusal (tag code : Byte) (status : ReplyStatus) (bytes : List Byte) : Output :=
  .reply { tag := tag, code := code, status := status, data := .single bytes }

/-- The hand link frame is complete: the port hunts (R142). -/
abbrev State.handTaken (s : State) : State := { s with handRx := [] }

/-- The report frame is complete: the port hunts (R108). -/
abbrev State.reportTaken (s : State) : State := { s with sectionRx := [] }

/-- The requests with their codes and argument counts, in the order of Table 12-4. -/
def requestTable (tag : Byte) (args : List Byte) : List (Instr × Byte × Nat) :=
  [(.status tag args, 0x01, 0), (.readHandset tag args, 0x02, 1), (.readSlot tag args, 0x03, 1),
   (.readCrossover tag args, 0x04, 1), (.readWindows tag args, 0x05, 0),
   (.profileFirst tag args, 0x10, 5), (.profileSecond tag args, 0x11, 6), (.bind tag args, 0x20, 2),
   (.unbind tag args, 0x21, 1), (.forget tag args, 0x22, 1), (.setPace tag args, 0x23, 2),
   (.wish tag args, 0x24, 2), (.beacon tag args, 0x30, 5), (.beaconClear tag args, 0x31, 1),
   (.tolerance tag args, 0x32, 1), (.crossoverSet tag args, 0x40, 7),
   (.crossoverClear tag args, 0x41, 1), (.track tag args, 0x50, 2), (.clearCutoff tag args, 0x51, 0),
   (.linkSet tag args, 0x60, 5), (.restart tag args, 0x7F, 0)]

/-- A measurement of period `p` and high count `w` is one of slot `k`'s code, or of no slot's (R62). -/
def Measures (s : State) (p w : Byte) : Option SlotNo → Prop
  | some k => ∃ c, s.code k = some c ∧ distance { cycle := p.toNat, duty := w.toNat } c ≤ s.tolerance
  | none => ∀ k c, s.code k = some c →
      s.tolerance < distance { cycle := p.toNat, duty := w.toNat } c

/-- A sighting of `slot` does nothing to pairing: UNKNOWN, a slot with a source, or no window (R43). -/
def NoPairing (s : State) (slot : Option SlotNo) : Prop :=
  ∀ k, slot = some k → (s.slot k).source ≠ .none ∨ s.windows = []

/-- No entry of a zone queue is of the classified slot (R70). -/
def NotInZone (zone : List ZoneEntry) (slot : Option SlotNo) : Prop :=
  ∀ k, slot = some k → ∀ e ∈ zone, e.slot ≠ some k

/-- The echo to entry `h`'s radio ID; a FREE entry has none. -/
def echoOutput (s : State) (h : EntryNo) (body : EchoBody) : List Output :=
  match s.entry h with
  | some e => [.echo e.radioId body]
  | none => []

/-- What a window of entry `h` closing with a reason other than BOUND hands on (R40 ③, ④). -/
def closeOutputs (s : State) (h : EntryNo) (reason : CloseReason) : List Output :=
  echoOutput s h (.windowClosed reason) ++ [.notice (.windowClosed h reason)]

/-- The windows of the other entries, in their order (R36, R40 ①). -/
def otherWindows (h : EntryNo) (s : State) : List Window := s.windows.filter fun w => w.entry != h

/-- A slot record that a broken binding leaves (R28). -/
def Slot.freed (r : Slot) : Slot := { r with source := .none, wish := false, failsafe := false }

/-- A measurement that is not malformed (R61). -/
abbrev GoodMeasurement (p w : Byte) : Prop := 1 ≤ p.toNat ∧ w.toNat ≤ p.toNat

/-- The sensor byte of an exit sensor (Table 12-12). -/
def ExitSensor.code : ExitSensor → Byte
  | .xs => 1
  | .xd => 2

/-- The record of a crossover after a removal with an outcome (R81 ①, ②, R86). -/
def Crossover.passed (c : Crossover) (rest : List ZoneEntry) (record : Passage) : Crossover :=
  { c with zone := rest, last := some record, lastNew := true, previous := c.last.or c.previous }

/-- The passage record of a removed entry (R86). -/
def ZoneEntry.record (e : ZoneEntry) (outcome : PassageOutcome) (exit : Option (Time × ExitSensor)) :
    Passage :=
  { slot := e.slot, wished := e.wished, decision := e.decision, outcome := outcome
    approach := e.entryTime, exit := exit }

/-- The seven bytes of a profile before its mode byte (Table 12-10 note 1). -/
def profileNumbers (p : Profile) : List Byte :=
  [byte p.db] ++ bytes16 p.gain ++ [byte p.ceil, byte p.minrun, byte p.rise, byte p.decay]

/-- A mode byte says a profile's curve and policy; its bits 3 to 7 are free (Table 12-10 note 1). -/
def ModeByte (m : Byte) (p : Profile) : Prop :=
  (m.getLsbD 0 = true ↔ p.curve = .progressive) ∧
  m.toNat / 2 % 4 = (match p.policy with | .single => 0 | .repeated => 1 | .hold => 2)

/-- Five bytes say a configuration; bit 6 of the first is free (Table 12-11 note 1). -/
def ConfigBytes (bytes : List Byte) (g : CrossConfig) : Prop :=
  ∃ b : Byte, bytes = [b, byte g.dead, byte g.confirm] ++ bytes16 g.clear ∧
    b.getLsbD 7 = g.enabled ∧ b.toNat % 64 = g.pulse

/-- Seven bytes say a passage record: as PREVIOUS (`new` none) or as LAST with its new flag
(Table 12-11 note 2). -/
def PassageBytes (bytes : List Byte) (new : Option Bool) : Option Passage → Prop
  | none => bytes = [0, 0, 0, 0, 0, 0, 0]
  | some p => ∃ flags x y : Byte,
    bytes = [byte (slotNumber p.slot + 16 * p.decision.code + 128 * p.wished.toNat), byte p.outcome.code,
      flags] ++ bytes16 (p.approach.toNat % 65536) ++ [x, y] ∧
    flags.getLsbD 0 = true ∧ (∀ n ∈ new, flags.getLsbD 1 = n) ∧ flags.getLsbD 2 = p.exit.isSome ∧
    (flags.getLsbD 3 = true ↔ ∃ time, p.exit = some (time, .xd)) ∧
    ∀ time sensor, p.exit = some (time, sensor) → [x, y] = bytes16 (time.toNat % 65536)

/-- Five bytes say a zone entry, the time remaining being `left` (Table 12-11 part 2). -/
def zoneSlotBytes (e : ZoneEntry) (left : Nat) : List Byte :=
  [byte (slotNumber e.slot + 16 * e.decision.code + 128 * e.wished.toNat)]
    ++ bytes16 (e.entryTime.toNat % 65536) ++ bytes16 left

end Sys2Proof.Machine
end

