-- ==== Sys2Proof/WellFormed.lean ====
section
/-! DEFINITION. Which commands can come from the lines: a payload of at most 24 bytes (R142), an
UNKNOWN_REQUEST with a code outside Table 12-4 (R151), and at least one byte where bytes are received. -/

namespace Sys2Proof

/-- A request's payload is its tag, its code and its arguments, at most 24 bytes together (R142). -/
def argsFit (args : List Byte) : Bool := args.length + 2 ≤ Config.maxPayload

/-- The well-formed commands. `exec` gives every command a meaning, well-formed or not. -/
def WellFormed : Instr → Bool
  | .sample payload => payload.length ≤ Config.maxPayload
  | .unknownRequest _ code args => argsFit args && !Config.requestCodes.contains code
  | .status _ args | .readHandset _ args | .readSlot _ args | .readCrossover _ args
  | .readWindows _ args | .profileFirst _ args | .profileSecond _ args | .bind _ args
  | .unbind _ args | .forget _ args | .setPace _ args | .wish _ args | .beacon _ args
  | .beaconClear _ args | .tolerance _ args | .crossoverSet _ args | .crossoverClear _ args
  | .track _ args | .clearCutoff _ args | .linkSet _ args | .restart _ args => argsFit args
  | .sectionFrameDiscard bytes | .handLinkFrameDiscard bytes => !bytes.isEmpty
  | .silenceExpiry _ | .releaseExpiry _ | .windowExpiry _ | .sighting _ _ _ _
  | .clearDeadlineExpiry _ _ | .guardElapse _ | .position _ _ | .confirmDeadlineExpiry _
  | .sectionByteTimeout | .handLinkByteTimeout | .powerOnReset _ | .faultLineAsserted
  | .faultLineReleased | .headFrame | .driveFrame _ | .gateFrame | .codeFrame
  | .transmitterFrameEnd => true

end Sys2Proof
end

