-- ==== Sys2Proof/Certificates/Slice0/Obligations.lean ====
section
/-! DEFINITION. The statements for the provers. Each says what a command leaves of the whole state: what is not
named in a statement's next state is unchanged. A command that is a whole frame leaves the receive buffer of its
line empty (`handTaken`, `reportTaken`), whatever stood in it: R108 and R142 for a buffer that held that frame, and
the model's choice for any other (log entry 7). -/

open Sys2Proof Sys2Proof.Machine

/-! ### The step and the queue of commands -/

/-- The command at the front of the queue is the one a step takes (00_scope.md 0.6(3): events are taken one at a
time). -/
def Obligations.StepTakesTheFrontCommand : Prop :=
  ∀ (c : Instr) (rest : List Instr) (s : State),
    step { s with pending := c :: rest } = exec c { s with pending := rest }

/-- No command stops the part or touches the commands that wait behind it; with no command waiting one millisecond
passes and TIME alone moves, wrapping after its highest value. When TIME's millisecond comes is the model's choice
(log entry 1); that TIME advances by one is R149. -/
def Obligations.StepAnswersAndKeepsTheQueueOrder : Prop :=
  (∀ (c : Instr) (s : State), ∃ t, exec c s = .next t ∧ t.pending = s.pending) ∧
  (∀ s : State, s.pending = [] → ∃ t, step s = .next t ∧
    t = { s with time := t.time } ∧ t.time.toNat = (s.time.toNat + 1) % 4294967296)

/-! ### Invariants (Safety.lean) -/

/-- The state after power-on reset meets every invariant: State.reset, which takes the fault line as released (the
model's choice, log entry 8), and what a power-on reset leaves at either level of the line. -/
def Obligations.PowerOnStateMeetsTheInvariants : Prop :=
  (LinkInv State.reset ∧ BindingInv State.reset ∧ RadioInv State.reset ∧ BeaconInv State.reset ∧
    RangeInv State.reset ∧ CrossInv State.reset ∧ ReceiveInv State.reset) ∧
  ∀ (s t : State) (asserted : Bool), exec (.powerOnReset asserted) s = .next t →
    LinkInv t ∧ BindingInv t ∧ RadioInv t ∧ BeaconInv t ∧ RangeInv t ∧ CrossInv t ∧ ReceiveInv t

/-- The reply, echo and notice queues keep their bounds, and a free transmitter leaves no frame waiting (R144 to
R147). -/
def Obligations.StepKeepsTheOutboundQueues : Prop :=
  ∀ s t : State, LinkInv s → step s = .next t → LinkInv t

/-- Windows, bound slots, sources, failsafe flags and the disarmed wish of a NONE slot stay in agreement (R17,
R26, R36). -/
def Obligations.StepKeepsBindingsAndWindows : Prop :=
  ∀ s t : State, BindingInv s → step s = .next t → BindingInv t

/-- No two enrolled entries come to have one radio ID, and none a radio ID that is not valid (R3, Table 1-1). -/
def Obligations.StepKeepsRadioIdsApart : Prop :=
  ∀ s t : State, RadioInv s → step s = .next t → RadioInv t

/-- The distance of R54; the beacon table stays separated at every step, so a measurement lies within the
tolerance of at most one code. -/
def Obligations.StepKeepsTheCodesSeparated : Prop :=
  (∀ a b : Code, (distance a b : ℤ) = |(a.cycle : ℤ) - b.cycle| + |(a.duty : ℤ) - b.duty| ∧
    distance a b = distance b a) ∧
  (∀ a b : Code, CodeOk a → 1 ≤ b.cycle ∧ b.cycle ≤ 255 ∧ b.duty ≤ b.cycle → distance a b ≤ 508) ∧
  (∀ s t : State, BeaconInv s → step s = .next t → BeaconInv t) ∧
  BeaconInv State.reset ∧
  ∀ (s : State) (m a b : Code) (j k : SlotNo), BeaconInv s → s.code j = some a → s.code k = some b →
    distance m a ≤ s.tolerance → distance m b ≤ s.tolerance → j = k

/-- Every clamped value stays within its range: the link parameters, the profiles and pace steps, the beacon codes and
the tolerance, the configurations and pulses, and the cap (R2, R18, R37, R53, R101, R104, R135). -/
def Obligations.StepKeepsTheRanges : Prop :=
  ∀ s t : State, RangeInv s → step s = .next t → RangeInv t

/-- The columns of Table 5-2, the zone queues, the section command queue with its owed RETURNs, and the cut-off
stay as R69, R70, R71, R91, R101, R102, R137 and R138 say. -/
def Obligations.StepKeepsCrossoversAndCommands : Prop :=
  ∀ s t : State, CrossInv s → step s = .next t → CrossInv t

/-! ### Rules of the whole machine -/

/-- The track leaves CUTOFF only by CLEAR-CUTOFF, RESTART or a power-on reset (Table 9-1, R135). Where the command is
raw bytes on the hand link, a CLEAR-CUTOFF or RESTART request stands among them: the bytes up to its check byte
leave the part in CUTOFF with the rest of that frame received. That raw bytes may hold a request that is taken is the
model's choice (log entry 7). -/
def Obligations.CutoffIsLeftOnlyByClearCutoffOrAReset : Prop :=
  ∀ (c : Instr) (s t : State), WellFormed c = true → ReceiveInv s → s.track = .cutoff →
    exec c s = .next t → t.track ≠ .cutoff →
    (∃ tag, c = .clearCutoff tag []) ∨ (∃ tag, c = .restart tag []) ∨ c = .powerOnReset false ∨
      ∃ (before later : List Byte) (check tag code : Byte) (u : State),
        c = .handLinkFrameDiscard (before ++ check :: later) ∧
        exec (.handLinkFrameDiscard before) s = .next u ∧ u.track = .cutoff ∧
        u.handRx ++ [check] = handFrame 0x20 [tag, code] ∧ (code = 0x51 ∨ code = 0x7F)

/-- A pace slot never passes straight to a handset (Table 2-2: PACE to HANDSET cannot occur), whatever one command
other than raw bytes on the hand link, which may hold several requests. Raw bytes on the section line may hold several
sightings, and none of them frees a pace slot, since no entry is bound to it (R17). -/
def Obligations.APaceSlotNeverPassesToAHandset : Prop :=
  ∀ (c : Instr) (s t : State) (k : SlotNo) (p : Nat) (h : EntryNo),
    BindingInv s → (∀ bytes, c ≠ .handLinkFrameDiscard bytes) → (s.slot k).source = .pace p →
    exec c s = .next t →
    (t.slot k).source ≠ .handset h

/-- What one crossover takes leaves the other records as they were, apart from room in the command queue, which
may turn an OWED RETURN into a QUEUED one (R68). -/
def Obligations.OtherCrossoversAreLeftAlone : Prop :=
  ∀ (c : Instr) (x y : CrossNo) (s t : State), x ≠ y → exec c s = .next t →
    ((∃ sensor p w, c = .sighting x sensor p w) ∨ (∃ pos, c = .position x pos) ∨
      (∃ i, c = .clearDeadlineExpiry x i) ∨ c = .guardElapse x ∨ c = .confirmDeadlineExpiry x ∨
      (∃ tag, c = .readCrossover tag [byte x.val]) ∨ (∃ tag, c = .crossoverClear tag [byte x.val]) ∨
      ∃ tag b1 b2 b3 b4 b5 b6, c = .crossoverSet tag [byte x.val, b1, b2, b3, b4, b5, b6]) →
    t.cross y = s.cross y ∨
      ∃ pulse, (s.cross y).status = .owed pulse ∧
        t.cross y = { s.cross y with status := .queued .returning }

/-- The Pairing Unit and the Crossover Controller take one sighting in either order, which of the two a free value
says (log entry 5): the records come out the same, and only the order of their echoes and notices may differ (R65).
It needs the rule that a NONE slot is disarmed (R17). -/
def Obligations.EitherTakerOfASightingFirst : Prop :=
  (∀ (s : State) (x : CrossNo) (sensor : Sensor) (slot : Option SlotNo), NoneDisarmed s →
    { crossSighting x sensor slot (pairSighting slot s) with out := s.out } =
      { pairSighting slot (crossSighting x sensor slot s) with out := s.out }) ∧
  ∀ (s : State) (x : CrossNo) (b p w : Byte) (sensor : Sensor) (slot : Option SlotNo), BeaconInv s →
    GoodMeasurement p w → Measures s p w slot → sensorArg b = some sensor →
    ∃ draws, exec (.sighting x b p w) s =
        .next (crossSighting x sensor slot (pairSighting slot { s.reportTaken with freeDraws := draws })) ∨
      exec (.sighting x b p w) s =
        .next (pairSighting slot (crossSighting x sensor slot { s.reportTaken with freeDraws := draws }))

/-! ### Taking a request (R144, R150, R151) -/

/-- With 4 replies queued a request is discarded unanswered, RESTART included, and only the receive buffer is
left (R144). -/
def Obligations.RequestIsDiscardedWhileRepliesAreFull : Prop :=
  ∀ (s : State) (tag code : Byte) (args : List Byte), 4 ≤ s.out.replies.length →
    (∀ r ∈ requestTable tag args, exec r.1 s = .next s.handTaken) ∧
    exec (.unknownRequest tag code args) s = .next s.handTaken

/-- The common checks of a request, by the first that fails: a code outside Table 12-4 is answered UNKNOWN_REQUEST with the
code carried back, whatever its length; another argument count than that of Table 12-4 is BAD_LENGTH; a handset entry
over 11, a slot outside 1 to 8 or a crossover over 15 is BAD_INDEX, whatever the values beside it. Nothing else
changes (R151 ① to ③, R152, R159). -/
def Obligations.FailedChecksAreAnswered : Prop :=
  (∀ (s : State) (tag : Byte) (args : List Byte), s.out.replies.length < 4 →
    ∀ r ∈ requestTable tag args, args.length ≠ r.2.2 →
      exec r.1 s = .next (emit [refusal tag r.2.1 .badLength []] s.handTaken)) ∧
  (∀ (s : State) (tag code : Byte) (args : List Byte), s.out.replies.length < 4 →
    code ∉ Config.requestCodes →
    exec (.unknownRequest tag code args) s =
      .next (emit [refusal tag code .unknownRequest []] s.handTaken)) ∧
  (∀ (s : State) (tag b v1 v2 v3 v4 v5 v6 : Byte), s.out.replies.length < 4 →
    (12 ≤ b.toNat →
      exec (.readHandset tag [b]) s = .next (emit [refusal tag 0x02 .badIndex []] s.handTaken) ∧
      exec (.forget tag [b]) s = .next (emit [refusal tag 0x22 .badIndex []] s.handTaken) ∧
      exec (.bind tag [b, v1]) s = .next (emit [refusal tag 0x20 .badIndex []] s.handTaken)) ∧
    (b.toNat = 0 ∨ 9 ≤ b.toNat →
      exec (.readSlot tag [b]) s = .next (emit [refusal tag 0x03 .badIndex []] s.handTaken) ∧
      exec (.profileSecond tag [b, v1, v2, v3, v4, v5]) s =
        .next (emit [refusal tag 0x11 .badIndex []] s.handTaken) ∧
      exec (.bind tag [v1, b]) s = .next (emit [refusal tag 0x20 .badIndex []] s.handTaken) ∧
      exec (.unbind tag [b]) s = .next (emit [refusal tag 0x21 .badIndex []] s.handTaken) ∧
      exec (.setPace tag [b, v1]) s = .next (emit [refusal tag 0x23 .badIndex []] s.handTaken) ∧
      exec (.wish tag [b, v1]) s = .next (emit [refusal tag 0x24 .badIndex []] s.handTaken) ∧
      exec (.beacon tag [b, v1, v2, v3, v4]) s =
        .next (emit [refusal tag 0x30 .badIndex []] s.handTaken) ∧
      exec (.beaconClear tag [b]) s = .next (emit [refusal tag 0x31 .badIndex []] s.handTaken)) ∧
    (16 ≤ b.toNat →
      exec (.readCrossover tag [b]) s = .next (emit [refusal tag 0x04 .badIndex []] s.handTaken) ∧
      exec (.crossoverSet tag [b, v1, v2, v3, v4, v5, v6]) s =
        .next (emit [refusal tag 0x40 .badIndex []] s.handTaken) ∧
      exec (.crossoverClear tag [b]) s = .next (emit [refusal tag 0x41 .badIndex []] s.handTaken)))

/-- Each request's own refusals, by what they are given for; a refused request changes nothing else (R151 ④,
R14, R30, R31, R48, R100, R136, R139). -/
def Obligations.OwnRefusalsChangeNothingElse : Prop :=
  ∀ (s : State) (tag v w : Byte) (h : EntryNo) (k : SlotNo) (x : CrossNo), s.out.replies.length < 4 →
    (s.entry h = none →
      exec (.forget tag [byte h.val]) s = .next (emit [refusal tag 0x22 .noHandset []] s.handTaken) ∧
      exec (.bind tag [byte h.val, byte (k.val + 1)]) s =
        .next (emit [refusal tag 0x20 .noHandset []] s.handTaken)) ∧
    (s.entry h ≠ none → (∃ p, (s.slot k).source = .pace p) →
      exec (.bind tag [byte h.val, byte (k.val + 1)]) s =
        .next (emit [refusal tag 0x20 .slotPace []] s.handTaken)) ∧
    ((∃ g, (s.slot k).source = .handset g) →
      exec (.setPace tag [byte (k.val + 1), v]) s =
        .next (emit [refusal tag 0x23 .slotBound []] s.handTaken)) ∧
    ((∀ p, (s.slot k).source ≠ .pace p) →
      exec (.wish tag [byte (k.val + 1), v]) s =
        .next (emit [refusal tag 0x24 .notPace []] s.handTaken)) ∧
    ((s.cross x).state ≠ .fault →
      exec (.crossoverClear tag [byte x.val]) s =
        .next (emit [refusal tag 0x41 .notFaulted []] s.handTaken)) ∧
    ((s.cross x).state = .fault → (s.cross x).zone ≠ [] →
      exec (.crossoverClear tag [byte x.val]) s =
        .next (emit [refusal tag 0x41 .zoneBusy []] s.handTaken)) ∧
    (s.track = .cutoff →
      exec (.track tag [v, w]) s = .next (emit [refusal tag 0x50 .cutoffActive []] s.handTaken)) ∧
    (s.faultLine = true →
      exec (.clearCutoff tag []) s = .next (emit [refusal tag 0x51 .lineActive []] s.handTaken)) ∧
    (s.faultLine = false → s.track ≠ .cutoff →
      exec (.clearCutoff tag []) s = .next (emit [refusal tag 0x51 .notCutoff []] s.handTaken))

/-! ### The reading requests -/

/-- STATUS gathers the track, the reset cause, TIME, the counts, the masks and the depths, and changes nothing
else (R153, Table 12-8). -/
def Obligations.StatusReportsThePart : Prop :=
  ∀ (s : State) (tag : Byte), s.out.replies.length < 4 →
    ∃ (wish bound failsafe : BitVec 8) (fault : BitVec 16),
      exec (.status tag []) s = .next (emit [okReply tag 0x01
        ([(match s.track with | .halt => 0 | .run => 1 | .cutoff => 2 : Byte), byte s.cap,
            (match s.resetCause with | .powerOn => 0 | .restart => 1 : Byte)] ++ bytes32 s.time.toNat ++
          [byte ((List.finRange 12).countP fun h => (s.entry h).isSome), byte s.windows.length,
            wish, bound, failsafe] ++ bytes16 fault.toNat ++
          [byte s.commands.length, byte s.out.notices.length])] s.handTaken) ∧
      (∀ k : SlotNo, wish.getLsbD k.val = (s.slot k).wish ∧
        bound.getLsbD k.val = decide ((s.slot k).source ≠ .none) ∧
        failsafe.getLsbD k.val = (s.slot k).failsafe) ∧
      ∀ x : CrossNo, fault.getLsbD x.val = decide ((s.cross x).state = .fault)

/-- READ-HANDSET reports an entry by its state (R154, Table 12-9), and READ-WINDOWS lists the windows oldest first, each
with its entry, the entry's radio ID and the time remaining (R51); nothing else changes. The time remaining is the
deadline less TIME for a deadline still to be reached; for one reached and not yet taken the model sends 0 (log
entry 11). -/
def Obligations.ReadHandsetAndWindowsReport : Prop :=
  ((∀ (s : State) (tag : Byte) (h : EntryNo), s.out.replies.length < 4 →
    (s.entry h = none →
      exec (.readHandset tag [byte h.val]) s = .next (emit [okReply tag 0x02 [0]] s.handTaken)) ∧
    ∀ e, s.entry h = some e →
      ∃ flags : Byte, exec (.readHandset tag [byte h.val]) s = .next (emit [okReply tag 0x02
        ([(match e.phase with | .live _ _ => 1 | .lost _ => 2 : Byte)] ++ bytes16 e.radioId.toNat ++
          [e.sample.trigger, flags, byte (slotNumber e.bound),
            (match e.phase with | .live _ true => 1 | .live _ false => 0 | .lost _ => 0 : Byte)] ++
          bytes24 (match e.phase with
            | .live silence _ => remaining s.time silence
            | .lost (some release) => remaining s.time release
            | .lost none => 0))] s.handTaken) ∧
        flags.getLsbD 0 = e.sample.lc ∧ flags.getLsbD 1 = e.sample.pair ∧
        flags.getLsbD 2 = false ∧ flags.getLsbD 3 = false ∧ flags.extractLsb' 4 4 = e.sample.seq) ∧
  ∀ now deadline : Time, 1 ≤ (deadline - now).toNat → (deadline - now).toNat ≤ 2 ^ 31 →
    remaining now deadline = (deadline - now).toNat) ∧
  (∀ (s : State) (tag : Byte), s.out.replies.length < 4 → WindowInv s →
    exec (.readWindows tag []) s = .next (emit [okReply tag 0x05
      (byte s.windows.length :: (s.windows.map fun w =>
        [byte w.entry.val] ++ bytes16 (((s.entry w.entry).radio.getD 0).toNat) ++
          bytes16 (remaining s.time w.expiry)).flatten)] s.handTaken) ∧
    ∀ w ∈ s.windows, (s.entry w.entry).isLive = true)

/-- READ-SLOT reports a slot's source, wish, failsafe flag, last step, active profile and, if present, pending
profile; bits that no table assigns are free (log entry 6), and nothing else changes but the count of free values
drawn (R154, Table 12-10). -/
def Obligations.ReadSlotReportsTheRecord : Prop :=
  ∀ (s : State) (tag : Byte) (k : SlotNo), s.out.replies.length < 4 →
    ∃ (flags mode : Byte) (waiting : List Byte),
      exec (.readSlot tag [byte (k.val + 1)]) s = .next (emit [okReply tag 0x03
        ((match (s.slot k).source with
            | .none => [0, 0] | .handset h => [1, byte h.val] | .pace p => [2, byte p]) ++
          [flags, byte (s.slot k).lastStep] ++ profileNumbers (s.slot k).active ++ [mode] ++ waiting)]
        s.handTaken.draw) ∧
      flags.getLsbD 0 = (s.slot k).wish ∧ flags.getLsbD 1 = (s.slot k).failsafe ∧
      flags.getLsbD 2 = (s.slot k).pendingProfile.isSome ∧ ModeByte mode (s.slot k).active ∧
      ((s.slot k).pendingProfile = none → waiting = []) ∧
      ∀ p, (s.slot k).pendingProfile = some p →
        ∃ m, waiting = profileNumbers p ++ [m] ∧ ModeByte m p

/-- READ-CROSSOVER reports a record in three parts and then clears LAST's new flag; nothing else changes but the
count of free values drawn (R87, R160, Table 12-11). Two things are the model's choice: bits and exit time bytes that
no table assigns are free (log entry 6), and the time remaining to a deadline reached and not yet taken is sent as 0
(log entry 11). -/
def Obligations.ReadCrossoverReportsTheRecord : Prop :=
  ∀ (s : State) (tag : Byte) (x : CrossNo), s.out.replies.length < 4 → RangeInv s → CrossInv s →
    ∃ (b0 : Byte) (config staged two last previous : List Byte),
      exec (.readCrossover tag [byte x.val]) s = .next (emit
        [.reply ⟨tag, 0x04, .ok, .parts
          ([b0] ++ config ++ staged ++
            [byte (match (s.cross x).status with
              | .sent _ deadline => remaining s.time deadline
              | .none | .owed _ | .queued _ => 0)] ++
            bytes32 (s.cross x).settled.toNat ++ [byte (s.cross x).zone.length])
          two (last ++ previous)⟩]
        (s.handTaken.draw.setCross x { s.cross x with lastNew := false })) ∧
      b0.toNat % 16 = (match (s.cross x).state with
        | .disabled => 0 | .opened => 1 | .passing => 2 | .throwing => 3 | .diverted => 4 | .holding => 5
        | .returning => 6 | .fault => 7 | .dark => 8) ∧
      b0.toNat / 16 % 4 = (match (s.cross x).status with
        | .none => 0 | .owed _ => 1 | .queued _ => 2 | .sent _ _ => 3) ∧
      ((s.cross x).status ≠ .none →
        (b0.getLsbD 6 = true ↔ (s.cross x).status.outstanding ≠ some .throwing)) ∧
      b0.getLsbD 7 = (s.cross x).staged.isSome ∧
      ConfigBytes config (s.cross x).config ∧
      ((s.cross x).staged = none → staged = [0, 0, 0, 0, 0]) ∧
      (∀ g, (s.cross x).staged = some g → ConfigBytes staged g) ∧
      two = ((s.cross x).zone.map fun e =>
          zoneSlotBytes e (remaining s.time e.clearDeadline)).flatten ++
        List.replicate (20 - 5 * (s.cross x).zone.length) 0 ∧
      PassageBytes last (some (s.cross x).lastNew) (s.cross x).last ∧
      PassageBytes previous none (s.cross x).previous

/-! ### Profiles (R19, R20) -/

/-- PROFILE-FIRST loads the holding buffer, whatever k. PROFILE-SECOND forms slot k's pending profile from the buffer and
its own clamped values, replacing any that waits, and keeps the buffer (R18, R19, R20). -/
def Obligations.ProfileRequestsLoadInTwoHalves : Prop :=
  (∀ (s : State) (tag k db gainHi gainLo curve : Byte) (args : List Byte), s.out.replies.length < 4 →
    exec (.profileFirst tag [k, db, gainHi, gainLo, curve]) s = .next (emit [okReply tag 0x10 []]
      { s.handTaken with holding :=
        { db := min db.toNat 127, gain := min (gainHi.toNat * 256 + gainLo.toNat) 1023
          curve := if curve = 0 then .linear else .progressive } }) ∧
    (args.length ≠ 5 →
      exec (.profileFirst tag args) s = .next (emit [refusal tag 0x10 .badLength []] s.handTaken))) ∧
  (∀ (s : State) (tag ceil minrun rise decay policy : Byte) (k : SlotNo), s.out.replies.length < 4 →
    exec (.profileSecond tag [byte (k.val + 1), ceil, minrun, rise, decay, policy]) s =
      .next (emit [okReply tag 0x11 []] (s.handTaken.setSlot k { s.slot k with
        pendingProfile := some
          { db := s.holding.db, gain := s.holding.gain, curve := s.holding.curve
            ceil := min ceil.toNat 63, minrun := min minrun.toNat 63
            rise := min (max rise.toNat 1) 63, decay := min (max decay.toNat 1) 63
            policy := if policy = 0 then .single else if policy = 1 then .repeated else .hold } })))

/-! ### Bindings by the console (R14, R29, R48, R49) -/

/-- BIND closes h's window SUPERSEDED, frees the slot h had, takes k from the handset that had it, and binds h to
k, with the echoes in R49's order; nothing else changes (R27, R28, R49). Zone entries already made keep their wished
field (R71), where the last sentence of R77 says otherwise: the model's choice (log entry 15). -/
def Obligations.BindTakesTheSlot : Prop :=
  ∀ (s : State) (tag : Byte) (h : EntryNo) (k : SlotNo) (e : Enrolled), s.out.replies.length < 4 →
    BindingInv s → s.entry h = some e → (∀ p, (s.slot k).source ≠ .pace p) →
    ∃ t, exec (.bind tag [byte h.val, byte (k.val + 1)]) s = .next (emit
        ((if (s.entry h).window then closeOutputs s h .superseded else []) ++
          (match (s.slot k).source with
            | .handset g => if g = h then [] else echoOutput s g .released
            | .pace _ => []
            | .none => []) ++
          [.echo e.radioId (.bound k), okReply tag 0x20 []]) t) ∧
      t = { s.handTaken with handsets := t.handsets, windows := otherWindows h s, slots := t.slots } ∧
      t.slot k = { s.slot k with
        source := .handset h, wish := false, failsafe := (s.entry h).isLost } ∧
      (∀ j, j ≠ k → t.slot j = if e.bound = some j then (s.slot j).freed else s.slot j) ∧
      t.entry h = ((s.entry h).withWindow false).withBound (some k) ∧
      ∀ g, g ≠ h → t.entry g =
        if (s.entry g).boundSlot = some k then (s.entry g).withBound none else s.entry g

/-- UNBIND by the slot's source: a handset is released, its window closed SUPERSEDED; a pace step is discarded; a NONE
slot is left as it is. FORGET closes the window SUPERSEDED, and FORGET and the release deadline of a LOST entry free
the slot, send RELEASED and HANDSET_RELEASED and make the entry FREE (R13, R14, R28, R29). Zone entries already made
keep their wished field (R71), where the last sentence of R77 says otherwise: the model's choice (log entry 15). -/
def Obligations.UnbindForgetAndReleaseFreeTheSlot : Prop :=
  (∀ (s : State) (tag : Byte) (k : SlotNo), s.out.replies.length < 4 →
    (∀ h, (s.slot k).source = .handset h →
      exec (.unbind tag [byte (k.val + 1)]) s = .next (emit
        ((if (s.entry h).window then closeOutputs s h .superseded else []) ++
          echoOutput s h .released ++ [okReply tag 0x21 []])
        (({ s.handTaken with
            windows := if (s.entry h).window then otherWindows h s else s.windows }.setSlot k
              (s.slot k).freed).setEntry h (((s.entry h).withWindow false).withBound none)))) ∧
    (∀ p, (s.slot k).source = .pace p →
      exec (.unbind tag [byte (k.val + 1)]) s = .next (emit [okReply tag 0x21 []]
        (s.handTaken.setSlot k { s.slot k with source := .none, wish := false }))) ∧
    ((s.slot k).source = .none →
      exec (.unbind tag [byte (k.val + 1)]) s = .next (emit [okReply tag 0x21 []] s.handTaken))) ∧
  (∀ (s : State) (tag : Byte) (h : EntryNo) (e : Enrolled), s.out.replies.length < 4 →
    s.entry h = some e →
    ∃ t, exec (.forget tag [byte h.val]) s = .next (emit
        ((if (s.entry h).window then closeOutputs s h .superseded else []) ++
          [.echo e.radioId .released, .notice (.handsetReleased h), okReply tag 0x22 []]) t) ∧
      t = { s.handTaken.setEntry h none with
        windows := if (s.entry h).window then otherWindows h s else s.windows, slots := t.slots } ∧
      ∀ j, t.slot j = if e.bound = some j then (s.slot j).freed else s.slot j) ∧
  (∀ (s : State) (h : EntryNo) (e : Enrolled) (release : Time),
    s.entry h = some e → e.phase = .lost (some release) → (s.time - release).toNat < 2 ^ 31 →
    ∃ t, exec (.releaseExpiry h) s = .next (emit
        [.echo e.radioId .released, .notice (.handsetReleased h)] t) ∧
      t = { s.setEntry h none with slots := t.slots } ∧
      ∀ j, t.slot j = if e.bound = some j then (s.slot j).freed else s.slot j)

/-! ### Pace slots (R30, R31) -/

/-- SET-PACE on a NONE or pace slot makes it PACE with the step clamped and keeps its wish, failsafe flag, profiles and
last step; WISH sets a pace slot's wish under any policy, 0 disarming and any other value arming (R30, R31). -/
def Obligations.PaceSlotsAreSetByTheConsole : Prop :=
  (∀ (s : State) (tag step : Byte) (k : SlotNo), s.out.replies.length < 4 →
    (∀ h, (s.slot k).source ≠ .handset h) →
    exec (.setPace tag [byte (k.val + 1), step]) s = .next (emit [okReply tag 0x23 []]
      (s.handTaken.setSlot k { s.slot k with source := .pace (min step.toNat 63) }))) ∧
  (∀ (s : State) (tag armed : Byte) (k : SlotNo) (p : Nat), s.out.replies.length < 4 →
    (s.slot k).source = .pace p →
    exec (.wish tag [byte (k.val + 1), armed]) s = .next (emit [okReply tag 0x24 []]
      (s.handTaken.setSlot k { s.slot k with wish := armed.toNat != 0 })))

/-! ### Beacon codes (R53 to R58) -/

/-- BEACON clamps C and then D, stores the code if every other code lies more than twice the tolerance away, and
otherwise is refused CODE_CLASH naming the lowest such slot. BEACON-CLEAR leaves the slot without a code, and from
then on no measurement is classified to it (R55, R56, R57). -/
def Obligations.BeaconRequestsSetAndClearACode : Prop :=
  (∀ (s : State) (tag cHi cLo dHi dLo : Byte) (k : SlotNo) (c d : Nat), s.out.replies.length < 4 →
    c = min (max (cHi.toNat * 256 + cLo.toNat) 16) 255 →
    d = min (max (dHi.toNat * 256 + dLo.toNat) 1) (c - 1) →
    ((∀ j a, j ≠ k → s.code j = some a → 2 * s.tolerance < distance ⟨c, d⟩ a) →
      exec (.beacon tag [byte (k.val + 1), cHi, cLo, dHi, dLo]) s =
        .next (emit [okReply tag 0x30 [byte c, byte d]] (s.handTaken.setCode k (some ⟨c, d⟩)))) ∧
    ∀ j a, j ≠ k → s.code j = some a → distance ⟨c, d⟩ a ≤ 2 * s.tolerance →
      (∀ i b, i < j → i ≠ k → s.code i = some b → 2 * s.tolerance < distance ⟨c, d⟩ b) →
      exec (.beacon tag [byte (k.val + 1), cHi, cLo, dHi, dLo]) s =
        .next (emit [refusal tag 0x30 .codeClash [byte (j.val + 1)]] s.handTaken)) ∧
  (∀ (s : State) (tag : Byte) (k : SlotNo), s.out.replies.length < 4 →
    exec (.beaconClear tag [byte (k.val + 1)]) s =
      .next (emit [okReply tag 0x31 []] (s.handTaken.setCode k none)) ∧
    ∀ m, classify (s.setCode k none) m ≠ some k)

/-- TOLERANCE clamps, is refused CODE_CLASH naming the first pair within twice the clamped value, and otherwise
takes the value, by which it classifies from then on; a lowered or unchanged tolerance, or any with fewer than two
codes, always passes (R58). -/
def Obligations.ToleranceChecksEveryPair : Prop :=
  ∀ (s : State) (tag b : Byte) (v : Nat), s.out.replies.length < 4 → v = min (max b.toNat 1) 63 →
    (∀ j k c d, j < k → s.code j = some c → s.code k = some d → distance c d ≤ 2 * v →
      (∀ i l p q, i < l → (i < j ∨ (i = j ∧ l < k)) → s.code i = some p → s.code l = some q →
        2 * v < distance p q) →
      exec (.tolerance tag [b]) s =
        .next (emit [refusal tag 0x32 .codeClash [byte (j.val + 1), byte (k.val + 1)]] s.handTaken)) ∧
    (((∀ j k c d, j < k → s.code j = some c → s.code k = some d → 2 * v < distance c d) ∨
      (BeaconInv s ∧ v ≤ s.tolerance) ∨
      (∃ j, ∀ k, k ≠ j → s.code k = none)) →
      exec (.tolerance tag [b]) s =
        .next (emit [okReply tag 0x32 [byte v]] { s.handTaken with tolerance := v })) ∧
    ∀ (m : Code), (∀ k, classify { s with tolerance := v } m = some k →
        ∃ c, s.code k = some c ∧ distance m c ≤ v) ∧
      (classify { s with tolerance := v } m = none → ∀ k c, s.code k = some c → v < distance m c)

/-! ### Crossover configuration (R92, R100, R104 to R107) -/

/-- CROSSOVER-SET clamps the five values and stages or applies them by the crossover's state; an applied one takes
the crossover out of service, brings it into service or leaves its state, and the guard is judged again from the
settled time (R92, R104 to R107). The reply says what was stored and 0 applied or 1 staged. Two things are the
model's own: the guard is judged by TIME less the settled time, modulo the wrap (DEDUCED, log entry 10), and bit 6 of
a configuration's first byte is free (log entry 6). -/
def Obligations.CrossoverSetStagesOrApplies : Prop :=
  ∀ (s : State) (tag enable pulse dead confirm clearHi clearLo : Byte) (x : CrossNo) (g : CrossConfig)
    (c : Crossover), s.out.replies.length < 4 → c = s.cross x →
    g = { enabled := enable != 0, pulse := min (max pulse.toNat 5) 60, dead := min dead.toNat 250
          confirm := min (max confirm.toNat 10) 250
          clear := min (max (clearHi.toNat * 256 + clearLo.toNat) 100) 5000 } →
    ∃ (bytes : List Byte) (staged : Bool) (c' : Crossover) (queue : List SectionCommand),
      exec (.crossoverSet tag [byte x.val, enable, pulse, dead, confirm, clearHi, clearLo]) s =
        .next (emit [okReply tag 0x40 (bytes ++ [if staged then 1 else 0])]
          ({ s.handTaken.draw with commands := queue }.setCross x c')) ∧
      ConfigBytes bytes g ∧
      (staged = true ↔ c.state ∈ [.passing, .throwing, .diverted, .holding, .returning]) ∧
      (staged = true → c' = { c with staged := some g } ∧ queue = s.commands) ∧
      (staged = false → c'.config = g ∧ c'.staged = none ∧
        c'.guardRunning = decide ((s.time - c.settled).toNat < g.dead) ∧
        { c' with config := c.config, staged := c.staged, guardRunning := c.guardRunning
                  state := c.state, status := c.status } = c) ∧
      (staged = false → g.enabled = true → c.state ≠ .disabled →
        c'.state = c.state ∧ c'.status = c.status ∧ queue = s.commands) ∧
      (c.state = .disabled → g.enabled = true → s.track = .cutoff →
        c'.state = .dark ∧ c'.status = c.status ∧ queue = s.commands) ∧
      (c.state = .disabled → g.enabled = true → s.track ≠ .cutoff → c'.state = .returning ∧
        (s.commands.length < 8 → c'.status = .queued .returning ∧
          queue = s.commands ++ [(⟨x, .returning, g.pulse⟩ : SectionCommand)]) ∧
        (8 ≤ s.commands.length → c'.status = .owed g.pulse ∧ queue = s.commands)) ∧
      (staged = false → g.enabled = false → c'.status = c.status ∧ queue = s.commands ∧
        c'.state = if c.state = .fault ∧ c.zone ≠ [] then .fault else .disabled)

/-- CROSSOVER-CLEAR returns the diverter of a FAULT crossover whose zone is empty. A guard whose dead time has passed
elapses; in HOLDING the RETURN is decided, and in every other state nothing else changes. The RETURN is QUEUED with
room in the command queue and OWED without (R92, R95, R96, R100). That the dead time has passed is judged by TIME less
the settled time, modulo the wrap: the model's reading (DEDUCED, log entry 10). -/
def Obligations.ReturnsAreDecided : Prop :=
  (∀ (s : State) (tag : Byte) (x : CrossNo) (c : Crossover), s.out.replies.length < 4 → c = s.cross x →
    c.state = .fault → c.zone = [] →
    (s.commands.length < 8 →
      exec (.crossoverClear tag [byte x.val]) s = .next (emit [okReply tag 0x41 []]
        ({ s.handTaken with commands := s.commands ++ [(⟨x, .returning, c.config.pulse⟩ : SectionCommand)] }.setCross x
          { c with state := .returning, status := .queued .returning }))) ∧
    (8 ≤ s.commands.length →
      exec (.crossoverClear tag [byte x.val]) s = .next (emit [okReply tag 0x41 []]
        (s.handTaken.setCross x { c with state := .returning, status := .owed c.config.pulse })))) ∧
  (∀ (s : State) (x : CrossNo) (c : Crossover), c = s.cross x → c.guardRunning = true →
    c.config.dead ≤ (s.time - c.settled).toNat →
    (c.state ≠ .holding →
      exec (.guardElapse x) s = .next (s.setCross x { c with guardRunning := false })) ∧
    (c.state = .holding → s.commands.length < 8 →
      exec (.guardElapse x) s = .next
        ({ s with commands := s.commands ++
            [(⟨x, .returning, c.config.pulse⟩ : SectionCommand)] }.setCross x
          { c with guardRunning := false, state := .returning, status := .queued .returning })) ∧
    (c.state = .holding → 8 ≤ s.commands.length →
      exec (.guardElapse x) s = .next (s.setCross x
        { c with guardRunning := false, state := .returning, status := .owed c.config.pulse })))

/-! ### The track (R136 to R139) -/

/-- TRACK out of CUTOFF: 0 is RUN and every other value HALT, the cap is clamped, both are stored and replied, and no
notice is queued (R136, R159). LINK-SET clamps and stores the three link parameters and moves no deadline already
running (R2, R37, R155). -/
def Obligations.TrackAndLinkSetStoreTheirValues : Prop :=
  (∀ (s : State) (tag state cap : Byte), s.out.replies.length < 4 → s.track ≠ .cutoff →
    exec (.track tag [state, cap]) s = .next (emit
      [okReply tag 0x50 [if state = 0 then 1 else 0, byte (min cap.toNat 63)]]
      { s.handTaken with track := if state = 0 then .run else .halt, cap := min cap.toNat 63 })) ∧
  (∀ (s : State) (tag sHi sLo rHi rLo w : Byte), s.out.replies.length < 4 →
    ∃ silence release window : Nat,
      exec (.linkSet tag [sHi, sLo, rHi, rLo, w]) s = .next (emit
        [okReply tag 0x60 (bytes16 silence ++ [byte release, byte window])]
        { s.handTaken with silenceLimit := silence, releaseLimit := release, windowLength := window }) ∧
      silence = min (max (sHi.toNat * 256 + sLo.toNat) 50) 2000 ∧
      release = min (rHi.toNat * 256 + rLo.toNat) 255 ∧ window = min (max w.toNat 1) 60)

/-- The fault line asserted in HALT or RUN: the track is cut off, every command, zone and outstanding status is
dropped, every crossover that is not DISABLED is DARK with the rest of its record kept, and CUTOFF is queued; in
CUTOFF only the line is recorded. Released: the line is recorded and the track state stays (R90, R137, R138). -/
def Obligations.FaultLineCutsTheTrackOff : Prop :=
  (∀ s : State,
    (s.track ≠ .cutoff → ∃ t, exec .faultLineAsserted s = .next (emit [.notice .cutoff] t) ∧
      t = { s with faultLine := true, track := .cutoff, commands := [], crossovers := t.crossovers } ∧
      ∀ x, t.cross x = { s.cross x with
        status := .none, zone := []
        state := if (s.cross x).state = .disabled then .disabled else .dark }) ∧
    (s.track = .cutoff → exec .faultLineAsserted s = .next { s with faultLine := true })) ∧
  (∀ s : State, exec .faultLineReleased s = .next { s with faultLine := false })

/-- CLEAR-CUTOFF with the line released: HALT, and every DARK crossover has a RETURN decided, in number order, the
first eight QUEUED and the rest OWED, but for those whose configuration has enabled no, which become DISABLED;
CUTOFF_CLEARED is queued (R139). The command queue is empty in CUTOFF (R137). -/
def Obligations.ClearCutoffResynchronises : Prop :=
  ∀ (s : State) (tag : Byte) (back : List CrossNo), s.out.replies.length < 4 → s.faultLine = false →
    s.track = .cutoff → s.commands = [] →
    back = (List.finRange 16).filter (fun x =>
      decide ((s.cross x).state = .dark) && (s.cross x).config.enabled) →
    ∃ t, exec (.clearCutoff tag []) s = .next (emit [.notice .cutoffCleared, okReply tag 0x51 []] t) ∧
      t = { s.handTaken with
        track := .halt, crossovers := t.crossovers
        commands := (back.take 8).map fun x => ⟨x, .returning, (s.cross x).config.pulse⟩ } ∧
      (∀ x ∈ back.take 8, t.cross x = { s.cross x with
        state := .returning, status := .queued .returning }) ∧
      (∀ x ∈ back.drop 8, t.cross x = { s.cross x with
        state := .returning, status := .owed (s.cross x).config.pulse }) ∧
      ∀ x, x ∉ back → t.cross x = if (s.cross x).state = .dark
        then { s.cross x with state := .disabled } else s.cross x

/-! ### The resets (R16, R34, R35, R52, R66, R89, R110, R111, R128, R141, R148, R156, R157) -/

/-- RESTART: handsets, bindings, windows, zones, passage records and queued frames are forgotten; beacon codes,
active profiles, pace steps, configurations, settled times, the cap and the link parameters are kept; the
crossovers are resynchronised, or DARK while the line is asserted; no reply, and STARTED(RESTART) alone. The
transmitter finishes the frame on the line, and a free one starts STARTED at once, which is the model's reading (log
entry 9). -/
def Obligations.RestartKeepsWhatTheConsoleLoaded : Prop :=
  ∀ (s : State) (tag : Byte) (back : List CrossNo), s.out.replies.length < 4 →
    back = (List.finRange 16).filter (fun x => (s.cross x).config.enabled) →
    ∃ t, exec (.restart tag []) s = .next t ∧
      t = { s with
        handRx := [], sectionRx := [], windows := [], handsets := t.handsets, slots := t.slots
        holding := ⟨8, 256, .linear⟩, crossovers := t.crossovers
        roundNumber := 0, framePos := 0, railFresh := true
        track := if s.faultLine then .cutoff else .halt, resetCause := .restart, time := 0
        commands := if s.faultLine then [] else
          (back.take 8).map fun x => ⟨x, .returning, (s.cross x).config.pulse⟩
        out := match s.out.transmitter with
          | .free => ⟨[], [], [], false, .sending (.notice ⟨.started .restart, 0, false⟩) []⟩
          | .sending frame _ =>
            ⟨[], [], [⟨.started .restart, 0, false⟩], false, .sending frame []⟩ } ∧
      (∀ h, t.entry h = none) ∧
      (∀ k, t.slot k = { s.slot k with
        source := (match (s.slot k).source with
          | .pace p => .pace p | .handset _ => .none | .none => .none)
        pendingProfile := none, wish := false, lastStep := 0, failsafe := false }) ∧
      ∀ x, t.cross x = { s.cross x with
        staged := none, zone := [], last := none, lastNew := false, previous := none
        state := if (s.cross x).config.enabled = false then .disabled
          else if s.faultLine then .dark else .returning
        status := if (s.cross x).config.enabled = false ∨ s.faultLine = true then .none
          else if x ∈ back.take 8 then .queued .returning else .owed (s.cross x).config.pulse }

/-- Power-on reset: the values of R16, R34, R52, R66, R89, R110, R128, R141, R148 and R157, the track CUTOFF or
HALT by the fault line. The commands that wait and the count of free values are the model's own and are kept; that
the transmitter already sends STARTED(POWER_ON) is DEDUCED (log entry 9). -/
def Obligations.PowerOnLeavesTheStatedValues : Prop :=
  ∀ (s : State) (asserted : Bool), ∃ t, exec (.powerOnReset asserted) s = .next t ∧
    (∀ h, t.entry h = none) ∧ t.windows = [] ∧
    (∀ k, t.slot k = ⟨.none, ⟨8, 256, .linear, 63, 0, 63, 4, .single⟩, none, false, 0, false⟩) ∧
    t.holding = ⟨8, 256, .linear⟩ ∧ (∀ k, t.code k = none) ∧ t.tolerance = 10 ∧
    (∀ x, t.cross x = ⟨⟨false, 20, 30, 60, 1500⟩, none, .disabled, .none, 0, false, [], none, false, none⟩) ∧
    t.commands = [] ∧ t.handRx = [] ∧ t.sectionRx = [] ∧
    t.roundNumber = 0 ∧ t.framePos = 0 ∧ t.railFresh = true ∧ t.railLine = none ∧
    t.track = (if asserted then .cutoff else .halt) ∧ t.faultLine = asserted ∧ t.cap = 63 ∧
    t.resetCause = .powerOn ∧ t.time = 0 ∧
    t.silenceLimit = 300 ∧ t.releaseLimit = 120 ∧ t.windowLength = 10 ∧
    t.out = ⟨[], [], [], false, .sending (.notice ⟨.started .powerOn, 0, false⟩) []⟩ ∧
    t.pending = s.pending ∧ t.freeDraws = s.freeDraws

/-! ### Samples (R3 to R9) -/

/-- A sample with PAIR set from a radio ID that no entry has enrols the lowest FREE entry, and a window opens, or is
refused when the list holds 4; with no FREE entry it draws TABLE_FULL; with PAIR clear, or with a payload length or
radio ID that is not valid, it is discarded (R4, R5, R38, R143). -/
def Obligations.SamplesFromUnknownRadioIds : Prop :=
  (∀ (s : State) (idHi idLo trigger flags : Byte) (id : RadioId) (m : Sample) (h : EntryNo),
    WindowInv s → id = idHi ++ idLo → id ≠ 0x0000 → id ≠ 0xFFFF →
    m = ⟨trigger, flags.getLsbD 0, true, flags.extractLsb' 4 4⟩ → flags.getLsbD 1 = true →
    (∀ g, (s.entry g).radio ≠ some id) → s.entry h = none → (∀ g, g < h → s.entry g ≠ none) →
    (s.windows.length < 4 →
      exec (.sample [idHi, idLo, trigger, flags]) s = .next (emit
        [.echo id (.windowOpen s.windowLength), .notice (.windowOpen h)]
        ({ s.handTaken with windows := s.windows ++ [(⟨h, s.after (1000 * s.windowLength)⟩ : Window)] }.setEntry h
          (some ⟨id, m, none, .live (s.after s.silenceLimit) true⟩)))) ∧
    (4 ≤ s.windows.length →
      exec (.sample [idHi, idLo, trigger, flags]) s = .next (emit [.echo id .windowRefused]
        (s.handTaken.setEntry h (some ⟨id, m, none, .live (s.after s.silenceLimit) false⟩))))) ∧
  (∀ s : State,
    (∀ payload, payload.length ≠ 4 → exec (.sample payload) s = .next s.handTaken) ∧
    ∀ (idHi idLo trigger flags : Byte) (id : RadioId), id = idHi ++ idLo →
      (id = 0x0000 ∨ id = 0xFFFF →
        exec (.sample [idHi, idLo, trigger, flags]) s = .next s.handTaken) ∧
      (id ≠ 0x0000 → id ≠ 0xFFFF → (∀ g, (s.entry g).radio ≠ some id) →
        (flags.getLsbD 1 = false →
          exec (.sample [idHi, idLo, trigger, flags]) s = .next s.handTaken) ∧
        (flags.getLsbD 1 = true → (∀ g, s.entry g ≠ none) →
          exec (.sample [idHi, idLo, trigger, flags]) s =
            .next (emit [.echo id .tableFull] s.handTaken))))

/-- A sample with the stored sequence number from a LIVE entry is a duplicate: it restarts the silence timer and
does nothing else, whatever its trigger and buttons. From a LOST entry it is no duplicate: the entry is LIVE with
the new sample (R6). -/
def Obligations.DuplicateOnlyRestartsTheSilenceTimer : Prop :=
  ∀ (s : State) (idHi idLo trigger flags : Byte) (h : EntryNo) (e : Enrolled),
    RadioInv s → s.entry h = some e → e.radioId = idHi ++ idLo →
    (∀ silence window, e.phase = .live silence window → flags.extractLsb' 4 4 = e.sample.seq →
      exec (.sample [idHi, idLo, trigger, flags]) s = .next (s.handTaken.setEntry h
        (some { e with phase := .live (s.after s.silenceLimit) window }))) ∧
    (∀ release, e.phase = .lost release →
      ∃ t e', exec (.sample [idHi, idLo, trigger, flags]) s = .next t ∧ t.entry h = some e' ∧
        e'.sample = ⟨trigger, flags.getLsbD 0, flags.getLsbD 1, flags.extractLsb' 4 4⟩ ∧
        Entry.isLive (some e') = true)

/-- An accepted sample replaces the stored one, restarts the silence timer, brings a LOST entry back with its
slot's failsafe flag cleared, and hands on the presses: LC to the slot's wish by its policy, PAIR to the Pairing
Unit by the open window field (R7, R8, R9, R38, R39). -/
def Obligations.AcceptedSampleIsTaken : Prop :=
  ∀ (s : State) (idHi idLo trigger flags : Byte) (h : EntryNo) (e : Enrolled) (m : Sample)
    (window press lcPress : Bool),
    RadioInv s → WindowInv s → s.entry h = some e → e.radioId = idHi ++ idLo →
    m = ⟨trigger, flags.getLsbD 0, flags.getLsbD 1, flags.extractLsb' 4 4⟩ →
    ((s.entry h).isLive = true → m.seq ≠ e.sample.seq) →
    window = (s.entry h).window → press = (m.pair && !e.sample.pair) →
    lcPress = (m.lc && !e.sample.lc) →
    ∃ t window' windows' outputs,
      exec (.sample [idHi, idLo, trigger, flags]) s = .next (emit outputs t) ∧
      t = { s.handTaken with handsets := t.handsets, slots := t.slots, windows := windows' } ∧
      t.entry h = some { e with sample := m, phase := .live (s.after s.silenceLimit) window' } ∧
      (∀ g, g ≠ h → t.entry g = s.entry g) ∧
      (∀ k, t.slot k = if e.bound = some k
        then { s.slot k with
          failsafe := if (s.entry h).isLost then false else (s.slot k).failsafe
          wish := if (s.slot k).active.policy = .hold then m.lc
            else if lcPress then !(s.slot k).wish else (s.slot k).wish }
        else s.slot k) ∧
      (press = false → window' = window ∧ windows' = s.windows ∧ outputs = []) ∧
      (press = true → window = true → window' = false ∧ windows' = otherWindows h s ∧
        outputs = [.echo e.radioId (.windowClosed .cancelled), .notice (.windowClosed h .cancelled)]) ∧
      (press = true → window = false → s.windows.length < 4 → window' = true ∧
        windows' = s.windows ++ [(⟨h, s.after (1000 * s.windowLength)⟩ : Window)] ∧
        outputs = [.echo e.radioId (.windowOpen s.windowLength), .notice (.windowOpen h)]) ∧
      (press = true → window = false → 4 ≤ s.windows.length → window' = false ∧
        windows' = s.windows ∧ outputs = [.echo e.radioId .windowRefused])

/-! ### Silence, release and window expiry (R10 to R13, R41) -/

/-- The silence deadline of a LIVE entry reached: LOST, with failsafe at the bound slot, a HOLD wish disarmed, the
window closed LOST, a release deadline by the release limit, and HANDSET_LOST (R10). -/
def Obligations.SilenceMakesTheEntryLost : Prop :=
  ∀ (s : State) (h : EntryNo) (e : Enrolled) (silence : Time) (window : Bool),
    s.entry h = some e → e.phase = .live silence window → (s.time - silence).toNat < 2 ^ 31 →
    ∃ t, exec (.silenceExpiry h) s = .next (emit
        ((if window then closeOutputs s h .lost else []) ++ [.notice (.handsetLost h)]) t) ∧
      t = { s.setEntry h (some { e with
          phase := .lost (if s.releaseLimit = 0 then none else some (s.after (1000 * s.releaseLimit))) }) with
        slots := t.slots, windows := if window then otherWindows h s else s.windows } ∧
      ∀ k, t.slot k = if e.bound = some k
        then { s.slot k with
          failsafe := true
          wish := if (s.slot k).active.policy = .hold then false else (s.slot k).wish }
        else s.slot k

/-- The expiry time of a window reached: it closes EXPIRED and the entry stays LIVE with its binding and its silence
deadline (R40, R41). -/
def Obligations.WindowExpiryClosesTheWindow : Prop :=
  ∀ (s : State) (h : EntryNo) (e : Enrolled) (w : Window), WindowInv s → s.entry h = some e →
    w ∈ s.windows → w.entry = h → (s.time - w.expiry).toNat < 2 ^ 31 →
    exec (.windowExpiry h) s = .next (emit
      [.echo e.radioId (.windowClosed .expired), .notice (.windowClosed h .expired)]
      ({ s with windows := otherWindows h s }.setEntry h ((s.entry h).withWindow false)))

/-- A sample and the silence expiry of its entry, in either order (R11): after the sample the deadline is not
reached and the expiry, in the model, changes nothing (log entry 3); after the expiry the sample, whatever its
sequence number, brings the entry back and clears the failsafe flag, and its binding is kept. -/
def Obligations.SampleAndSilenceExpiryInEitherOrder : Prop :=
  ∀ (s : State) (idHi idLo trigger flags : Byte) (h : EntryNo) (e : Enrolled) (silence : Time)
    (window : Bool), RadioInv s → BindingInv s → RangeInv s → s.entry h = some e →
    e.radioId = idHi ++ idLo → e.phase = .live silence window → (s.time - silence).toNat < 2 ^ 31 →
    (∃ t, exec (.sample [idHi, idLo, trigger, flags]) s = .next t ∧ (t.entry h).isLive = true ∧
      exec (.silenceExpiry h) t = .next t) ∧
    ∃ t u e', exec (.silenceExpiry h) s = .next t ∧ (t.entry h).isLost = true ∧
      exec (.sample [idHi, idLo, trigger, flags]) t = .next u ∧ u.entry h = some e' ∧
      Entry.isLive (some e') = true ∧ e'.bound = e.bound ∧
      e'.sample = ⟨trigger, flags.getLsbD 0, flags.getLsbD 1, flags.extractLsb' 4 4⟩ ∧
      ∀ k, e.bound = some k → (u.slot k).failsafe = false ∧ (u.slot k).source = .handset h

/-- An expiry or a guard elapse whose deadline does not exist or is not reached changes nothing: the model's reading
of 'has no deadline left to reach' (R11, R13, R14, R46, R82, R84, R94; log entry 3). That a deadline half the wrap of
TIME or more behind TIME counts as not reached, and that the guard is judged by TIME less the settled time, modulo
the wrap, is the model's reading as well (DEDUCED, log entry 10). -/
def Obligations.ADeadlineNotReachedDoesNothing : Prop :=
  ∀ (s : State) (h : EntryNo) (x : CrossNo) (i : Fin 4),
    ((∀ e silence window, s.entry h = some e → e.phase = .live silence window →
        2 ^ 31 ≤ (s.time - silence).toNat) → exec (.silenceExpiry h) s = .next s) ∧
    ((∀ e release, s.entry h = some e → e.phase = .lost (some release) →
        2 ^ 31 ≤ (s.time - release).toNat) → exec (.releaseExpiry h) s = .next s) ∧
    ((∀ w ∈ s.windows, w.entry = h → 2 ^ 31 ≤ (s.time - w.expiry).toNat) →
      exec (.windowExpiry h) s = .next s) ∧
    ((∀ e, (s.cross x).zone[i.val]? = some e → 2 ^ 31 ≤ (s.time - e.clearDeadline).toNat) →
      exec (.clearDeadlineExpiry x i) s = .next s) ∧
    ((∀ kind deadline, (s.cross x).status = .sent kind deadline →
        2 ^ 31 ≤ (s.time - deadline).toNat) → exec (.confirmDeadlineExpiry x) s = .next s) ∧
    ((s.cross x).guardRunning = false ∨
        (s.time - (s.cross x).settled).toNat < (s.cross x).config.dead →
      exec (.guardElapse x) s = .next s)

/-! ### Sightings (R43, R44, R61 to R65) -/

/-- A report with W over P, P of 0 or a sensor byte other than 0, 1 and 2 is discarded and changes nothing; every
other one, W equal to P, W of 0 and P of 255 among them, is classified and handed on, whatever the track state and
the crossover (R61). -/
def Obligations.MalformedSightingIsDiscarded : Prop :=
  ∀ (s : State) (x : CrossNo) (b p w : Byte),
    (p.toNat < w.toNat ∨ p = 0 ∨ (b ≠ 0 ∧ b ≠ 1 ∧ b ≠ 2) →
      exec (.sighting x b p w) s = .next s.reportTaken) ∧
    (w.toNat ≤ p.toNat → p ≠ 0 → ∀ sensor : Sensor,
      (b = 0 ∧ sensor = .a) ∨ (b = 1 ∧ sensor = .exit .xs) ∨ (b = 2 ∧ sensor = .exit .xd) →
      exec (.sighting x b p w) s =
        .next (handSighting x sensor (classify s ⟨p.toNat, w.toNat⟩) s.reportTaken))

/-- An eligible sighting binds the head window's entry at any crossover: the slot it had is freed, the window closes
BOUND, and the echoes and the notice follow in order (R43, R44, R64). At a crossover that drops sightings nothing else
happens. At an active one the crossover takes the sighting too, with the records it makes of it where no window waits
and with the slot still disarmed, and its notice is queued before or after those of the binding, which of the two a
free value says (R64, R65; log entry 5). A sighting that is not eligible, or UNKNOWN, changes nothing at a crossover
that drops sightings. -/
def Obligations.EligibleSightingBindsTheHeadWindow : Prop :=
  ∀ (s : State) (x : CrossNo) (b p w : Byte), BindingInv s → BeaconInv s → GoodMeasurement p w →
    b ∈ ([0, 1, 2] : List Byte) →
    (∀ (k : SlotNo) (wd : Window) (rest : List Window) (e : Enrolled) (binding : List Output),
      Measures s p w (some k) → (s.slot k).source = .none → s.windows = wd :: rest →
      s.entry wd.entry = some e →
      binding = [.echo e.radioId (.windowClosed .bound), .echo e.radioId (.bound k),
        .notice (.bound wd.entry k)] →
      ∃ (passage : List Output) (alone t : State) (outputs : List Output),
        exec (.sighting x b p w) { s with windows := [] } = .next (emit passage alone) ∧
        alone.out = s.out ∧ alone.slots = s.slots ∧
        ((s.cross x).state = .disabled ∨ (s.cross x).state = .dark →
          passage = [] ∧ alone = { s.reportTaken with windows := [] }) ∧
        exec (.sighting x b p w) s = .next (emit outputs t) ∧
        (outputs = binding ++ passage ∨ outputs = passage ++ binding) ∧
        t = { alone.setEntry wd.entry
            (((s.entry wd.entry).withWindow false).withBound (some k)) with
          windows := rest, slots := t.slots
          freeDraws := if (s.cross x).state = .disabled ∨ (s.cross x).state = .dark
            then s.freeDraws else s.freeDraws + 1 } ∧
        t.slot k = { s.slot k with source := .handset wd.entry, wish := false, failsafe := false } ∧
        ∀ j, j ≠ k → t.slot j = if e.bound = some j then (s.slot j).freed else s.slot j) ∧
    ∀ slot, (s.cross x).state = .disabled ∨ (s.cross x).state = .dark → Measures s p w slot →
      NoPairing s slot → exec (.sighting x b p w) s = .next s.reportTaken

/-! ### Approaches (R70 to R76) -/

/-- An approach at an OPEN crossover: not wished it is NONE; wished it is DENIED GUARD before the guard has elapsed,
then DENIED QUEUE with 8 commands queued, and otherwise HONORED with a THROW queued (R71, R72, R74). -/
def Obligations.ApproachAtOpenIsDecided : Prop :=
  ∀ (s : State) (x : CrossNo) (p w : Byte) (slot : Option SlotNo) (c : Crossover) (wished : Bool)
    (new : Decision → ZoneEntry), BeaconInv s → GoodMeasurement p w → Measures s p w slot →
    NoPairing s slot → c = s.cross x → c.state = .opened → c.zone = [] →
    wished = (match slot with | some k => (s.slot k).wish | none => false) →
    (∀ d, new d = ⟨slot, wished, d, s.time, s.after c.config.clear⟩) →
    (wished = false → exec (.sighting x 0 p w) s = .next (s.reportTaken.setCross x
      { c with zone := [new .none], state := .passing })) ∧
    (wished = true → c.guardRunning = true → exec (.sighting x 0 p w) s = .next
      (s.reportTaken.setCross x { c with zone := [new (.denied .guarded)], state := .passing })) ∧
    (wished = true → c.guardRunning = false → 8 ≤ s.commands.length →
      exec (.sighting x 0 p w) s = .next (s.reportTaken.setCross x
        { c with zone := [new (.denied .queue)], state := .passing })) ∧
    (wished = true → c.guardRunning = false → s.commands.length < 8 →
      exec (.sighting x 0 p w) s = .next
        ({ s.reportTaken with commands := s.commands ++
            [(⟨x, .throwing, c.config.pulse⟩ : SectionCommand)] }.setCross x
          { c with zone := [new .honored], state := .throwing, status := .queued .throwing }))

/-- An approach at a crossover in any other active state, with room in the zone and no entry of the slot: the
decision and the next state of each row of Table 5-4, and no command (R75, R76). -/
def Obligations.ApproachElsewhereIsDecided : Prop :=
  ∀ (s : State) (x : CrossNo) (p w : Byte) (slot : Option SlotNo) (c : Crossover) (wished : Bool),
    BeaconInv s → GoodMeasurement p w → Measures s p w slot → NoPairing s slot → c = s.cross x →
    c.zone.length < 4 → NotInZone c.zone slot →
    wished = (match slot with | some k => (s.slot k).wish | none => false) →
    ∀ row ∈ ([(.passing, .denied .occupied, .passing), (.throwing, .honored, .throwing),
        (.diverted, .honored, .diverted), (.holding, .honored, .diverted),
        (.returning, .denied .guarded, .returning), (.fault, .denied .fault, .fault)] :
        List (CrossState × Decision × CrossState)),
      c.state = row.1 → exec (.sighting x 0 p w) s = .next (s.reportTaken.setCross x
        { c with
          zone := c.zone ++ [⟨slot, wished, if wished then row.2.1 else .none, s.time,
            s.after c.config.clear⟩]
          state := row.2.2 })

/-- Displacement where entries remain: the entry of the same slot wherever it stands, or else the head of a queue of
4, goes UNVERIFIED with a record and a LANE notice and no change of a wish, and the new entry stands at the tail
(R73, R81, R86, R88). -/
def Obligations.ApproachDisplacesAnEntry : Prop :=
  ∀ (s : State) (x : CrossNo) (p w : Byte) (slot : Option SlotNo) (c : Crossover) (wished : Bool)
    (e : ZoneEntry) (pre post : List ZoneEntry),
    BeaconInv s → GoodMeasurement p w → Measures s p w slot → NoPairing s slot → c = s.cross x →
    c.zone = pre ++ e :: post → pre ++ post ≠ [] → NotInZone (pre ++ post) slot →
    (slot.isSome = true ∧ e.slot = slot ∧ (pre ++ post).length ≤ 3) ∨
      (NotInZone [e] slot ∧ pre = [] ∧ post.length = 3) →
    wished = (match slot with | some k => (s.slot k).wish | none => false) →
    ∀ row ∈ ([(.passing, .denied .occupied), (.throwing, .honored), (.diverted, .honored),
        (.returning, .denied .guarded), (.fault, .denied .fault)] : List (CrossState × Decision)),
      c.state = row.1 → exec (.sighting x 0 p w) s = .next (emit
        [.notice (.lane x e.slot .unverified)]
        (s.reportTaken.setCross x (c.passed
          (pre ++ post ++ [⟨slot, wished, if wished then row.2 else .none, s.time,
            s.after c.config.clear⟩]) (e.record .unverified none))))

/-- Displacement of the only entry, in every state that may hold one: the emptied-queue rule comes before the new entry
is decided. PASSING applies a staged configuration and decides as OPEN does, unless that configuration disables it,
which drops the approach; DIVERTED becomes HOLDING, or with the guard elapsed decides a RETURN, and the entry is made
there; THROWING, RETURNING and FAULT stay, but for a disable waiting in FAULT, which drops the approach (R72 to R76,
R85, R95, R96, R105, R106). The guard of an applied configuration is judged by TIME less the settled time, modulo
the wrap: the model's reading (DEDUCED, log entry 10). -/
def Obligations.ApproachAfterDisplacingTheOnlyEntry : Prop :=
  ∀ (s : State) (x : CrossNo) (p w : Byte) (k : SlotNo) (c gone : Crossover) (e : ZoneEntry) (wished : Bool)
    (entered : Crossover → Decision → Crossover),
    BeaconInv s → GoodMeasurement p w → Measures s p w (some k) → NoPairing s (some k) →
    c = s.cross x → c.zone = [e] → e.slot = some k → wished = (s.slot k).wish →
    gone = c.passed [] (e.record .unverified none) →
    (∀ b d, entered b d = { b with zone := [⟨some k, wished, d, s.time, s.after b.config.clear⟩] }) →
    let ends := fun (queue : List SectionCommand) (c' : Crossover) =>
      exec (.sighting x 0 p w) s = .next (emit [.notice (.lane x (some k) .unverified)]
        ({ s.reportTaken with commands := queue }.setCross x c'))
    (∀ b : Crossover, c.state = .passing →
      (c.staged = none ∧ b = gone) ∨ (∃ g, c.staged = some g ∧ g.enabled = true ∧ b = { gone with
        config := g, staged := none, guardRunning := decide ((s.time - c.settled).toNat < g.dead) }) →
      (wished = false → ends s.commands (entered b .none)) ∧
      (wished = true → b.guardRunning = true → ends s.commands (entered b (.denied .guarded))) ∧
      (wished = true → b.guardRunning = false → 8 ≤ s.commands.length →
        ends s.commands (entered b (.denied .queue))) ∧
      (wished = true → b.guardRunning = false → s.commands.length < 8 →
        ends (s.commands ++ [⟨x, .throwing, b.config.pulse⟩])
          { entered b .honored with state := .throwing, status := .queued .throwing })) ∧
    (∀ g, c.state = .passing → c.staged = some g → g.enabled = false → ends s.commands { gone with
      config := g, staged := none, guardRunning := decide ((s.time - c.settled).toNat < g.dead)
      state := .disabled }) ∧
    (c.state = .diverted → c.guardRunning = true →
      ends s.commands (entered gone (if wished then .honored else .none))) ∧
    (c.state = .diverted → c.guardRunning = false → s.commands.length < 8 →
      ends (s.commands ++ [⟨x, .returning, c.config.pulse⟩])
        { entered gone (if wished then .denied .guarded else .none) with
          state := .returning, status := .queued .returning }) ∧
    (c.state = .diverted → c.guardRunning = false → 8 ≤ s.commands.length →
      ends s.commands { entered gone (if wished then .denied .guarded else .none) with
        state := .returning, status := .owed c.config.pulse }) ∧
    (∀ row ∈ ([(.throwing, .honored), (.returning, .denied .guarded)] : List (CrossState × Decision)),
      c.state = row.1 → ends s.commands (entered gone (if wished then row.2 else .none))) ∧
    (c.state = .fault → c.config.enabled = true →
      ends s.commands (entered gone (if wished then .denied .fault else .none))) ∧
    (c.state = .fault → c.config.enabled = false → ends s.commands { gone with state := .disabled })

/-! ### Exits and clear deadlines (R78 to R88) -/

/-- A classified exit removes its slot's entry wherever it stands with the outcome of Table 5-5, writes the record,
disarms a SINGLE wish on CHANGED, and queues LANE unless STAYED, here where entries remain (the exit of the last is
in EmptiedZoneMovesTheCrossover); without such an entry the exit is ignored (R25, R78, R79, R81, R86, R88). -/
def Obligations.ClassifiedExitIsJudged : Prop :=
  ∀ (s : State) (x : CrossNo) (p w : Byte) (k : SlotNo) (c : Crossover) (sensor : ExitSensor),
    BeaconInv s → GoodMeasurement p w → Measures s p w (some k) → NoPairing s (some k) →
    c = s.cross x → c.state ≠ .disabled → c.state ≠ .dark →
    (∀ (e : ZoneEntry) (pre post : List ZoneEntry) (outcome : PassageOutcome),
      c.zone = pre ++ e :: post → pre ++ post ≠ [] → e.slot = some k → NotInZone pre (some k) →
      (sensor = .xd → e.decision ≠ .none → outcome = .changed) →
      (sensor = .xd → e.decision = .none → outcome = .forced) →
      (sensor = .xs → e.decision = .honored → outcome = .missed) →
      (sensor = .xs → ∀ r, e.decision = .denied r → outcome = .denied r) →
      (sensor = .xs → e.decision = .none → outcome = .stayed) →
      ∃ t, exec (.sighting x sensor.code p w) s = .next (emit
          (if outcome = .stayed then [] else [.notice (.lane x (some k) outcome)]) t) ∧
        t = (s.reportTaken.setCross x
            (c.passed (pre ++ post) (e.record outcome (some (s.time, sensor))))).setSlot k
          { s.slot k with wish := if outcome = .changed ∧ (s.slot k).active.policy = .single
              then false else (s.slot k).wish }) ∧
    (NotInZone c.zone (some k) →
      exec (.sighting x sensor.code p w) s = .next s.reportTaken)

/-- An UNKNOWN exit removes the head UNVERIFIED with its exit time and sensor, and is ignored with an empty queue;
a clear deadline reached removes its entry LOST_IN_ZONE from whatever place, with no exit. Both here where entries
remain (the last is in EmptiedZoneMovesTheCrossover); neither touches a wish (R80, R81, R83, R86, R88). -/
def Obligations.UnknownExitAndClearDeadlineRemove : Prop :=
  ∀ (s : State) (x : CrossNo) (c : Crossover), c = s.cross x →
    (∀ (p w : Byte) (sensor : ExitSensor), GoodMeasurement p w → Measures s p w none →
      c.state ≠ .disabled → c.state ≠ .dark →
      (c.zone = [] → exec (.sighting x sensor.code p w) s = .next s.reportTaken) ∧
      ∀ e rest, c.zone = e :: rest → rest ≠ [] →
        exec (.sighting x sensor.code p w) s = .next (emit [.notice (.lane x e.slot .unverified)]
          (s.reportTaken.setCross x
            (c.passed rest (e.record .unverified (some (s.time, sensor))))))) ∧
    ∀ (i : Fin 4) (e : ZoneEntry), c.zone[i.val]? = some e → 2 ≤ c.zone.length →
      (s.time - e.clearDeadline).toNat < 2 ^ 31 →
      exec (.clearDeadlineExpiry x i) s = .next (emit [.notice (.lane x e.slot .lostInZone)]
        (s.setCross x (c.passed (c.zone.eraseIdx i.val) (e.record .lostInZone none))))

/-- The last entry removed, by its clear deadline, by an UNKNOWN exit or by a classified exit with the outcome of Table
5-5: the record, the wish and the notice are as at any removal, and then PASSING becomes OPEN and applies a staged
configuration, DIVERTED becomes HOLDING or, with the guard elapsed, RETURNING at once, THROWING, RETURNING and FAULT
stay, and a disable waiting in FAULT takes effect (R25, R78 to R81, R83, R85, R86, R88, R95, R96, R105, R106). The
guard of an applied configuration is judged by TIME less the settled time, modulo the wrap, and a deadline is reached
in the half of TIME's circle before TIME: the model's reading (DEDUCED, log entry 10). -/
def Obligations.EmptiedZoneMovesTheCrossover : Prop :=
  ∀ (s base : State) (x : CrossNo) (c gone : Crossover) (e : ZoneEntry) (removal : Instr)
    (outcome : PassageOutcome) (exit : Option (Time × ExitSensor)),
    c = s.cross x → c.zone = [e] → gone = c.passed [] (e.record outcome exit) →
    (removal = .clearDeadlineExpiry x 0 ∧ (s.time - e.clearDeadline).toNat < 2 ^ 31 ∧
        outcome = .lostInZone ∧ exit = none ∧ base = s) ∨
      (∃ (sensor : ExitSensor) (p w : Byte), removal = .sighting x sensor.code p w ∧ GoodMeasurement p w ∧
        exit = some (s.time, sensor) ∧
        ((Measures s p w none ∧ outcome = .unverified ∧ base = s.reportTaken) ∨
          ∃ k : SlotNo, BeaconInv s ∧ Measures s p w (some k) ∧ NoPairing s (some k) ∧ e.slot = some k ∧
            outcome = (match sensor, e.decision with
              | .xd, .none => .forced
              | .xd, .honored | .xd, .denied _ => .changed
              | .xs, .honored => .missed
              | .xs, .denied r => .denied r
              | .xs, .none => .stayed) ∧
            base = s.reportTaken.setSlot k { s.slot k with
              wish := if outcome = .changed ∧ (s.slot k).active.policy = .single
                then false else (s.slot k).wish })) →
    let ends := fun (queue : List SectionCommand) (c' : Crossover) =>
      exec removal s = .next (emit
        (if outcome = .stayed then [] else [.notice (.lane x e.slot outcome)])
        ({ base with commands := queue }.setCross x c'))
    (c.state = .passing → c.staged = none → ends s.commands { gone with state := .opened }) ∧
    (∀ g, c.state = .passing → c.staged = some g → ends s.commands { gone with
      config := g, staged := none, guardRunning := decide ((s.time - c.settled).toNat < g.dead)
      state := if g.enabled then .opened else .disabled }) ∧
    (c.state = .diverted → c.guardRunning = true →
      ends s.commands { gone with state := .holding }) ∧
    (c.state = .diverted → c.guardRunning = false → s.commands.length < 8 →
      ends (s.commands ++ [⟨x, .returning, c.config.pulse⟩])
        { gone with state := .returning, status := .queued .returning }) ∧
    (c.state = .diverted → c.guardRunning = false → 8 ≤ s.commands.length →
      ends s.commands { gone with state := .returning, status := .owed c.config.pulse }) ∧
    (c.state = .throwing ∨ c.state = .returning → ends s.commands gone) ∧
    (c.state = .fault → ends s.commands
      { gone with state := if c.config.enabled then .fault else .disabled })

/-! ### The diverter (R92 to R102) -/

/-- A POSITION report that confirms a SENT command: status NONE, the settled time written, the guard started (and
elapsed at once with a dead time of 0). A THROW leaves DIVERTED, or HOLDING with the zone empty, whose RETURN comes
at once with a dead time of 0; a RETURN leaves PASSING, or OPEN with the zone empty, which applies a staged
configuration (R92, R93, R95, R97, R105, R106). -/
def Obligations.PositionConfirmsASentCommand : Prop :=
  ∀ (s : State) (x : CrossNo) (c c0 : Crossover) (kind : CommandKind) (deadline : Time),
    c = s.cross x → c.status = .sent kind deadline →
    c0 = { c with status := .none, settled := s.time, guardRunning := decide (0 < c.config.dead) } →
    (c.state = .throwing → c.zone ≠ [] → exec (.position x .divert) s = .next
      (s.reportTaken.setCross x { c0 with state := .diverted })) ∧
    (c.state = .throwing → c.zone = [] → 0 < c.config.dead → exec (.position x .divert) s = .next
      (s.reportTaken.setCross x { c0 with state := .holding })) ∧
    (c.state = .throwing → c.zone = [] → c.config.dead = 0 → s.commands.length < 8 →
      exec (.position x .divert) s = .next
        ({ s.reportTaken with commands := s.commands ++
            [(⟨x, .returning, c.config.pulse⟩ : SectionCommand)] }.setCross x
          { c0 with state := .returning, status := .queued .returning })) ∧
    (c.state = .throwing → c.zone = [] → c.config.dead = 0 → 8 ≤ s.commands.length →
      exec (.position x .divert) s = .next (s.reportTaken.setCross x
        { c0 with state := .returning, status := .owed c.config.pulse })) ∧
    (c.state = .returning → c.zone ≠ [] → exec (.position x .straight) s = .next
      (s.reportTaken.setCross x { c0 with state := .passing })) ∧
    (c.state = .returning → c.zone = [] → c.staged = none →
      exec (.position x .straight) s = .next
        (s.reportTaken.setCross x { c0 with state := .opened })) ∧
    (∀ g, c.state = .returning → c.zone = [] → c.staged = some g →
      exec (.position x .straight) s = .next (s.reportTaken.setCross x
        { c0 with
          config := g, staged := none, guardRunning := decide (0 < g.dead)
          state := if g.enabled then .opened else .disabled }))

/-- Every other POSITION report, by Table 6-2, for a crossover whose command does not stand in the queue: ignored
where it agrees or the part does not watch, and FAULT with cause WRONG_POSITION otherwise. A confirm deadline
reached is FAULT with cause CONFIRM_TIMEOUT. The zone is kept (R93, R94, R97, R98, R99). -/
def Obligations.DiverterFailureIsAFault : Prop :=
  ∀ (s : State) (x : CrossNo) (c : Crossover) (pos : Position), c = s.cross x →
    ((c.state = .disabled ∨ c.state = .fault ∨ c.state = .dark ∨
        ((c.state = .opened ∨ c.state = .passing) ∧ pos = .straight) ∨
        ((c.state = .diverted ∨ c.state = .holding) ∧ pos = .divert)) →
      exec (.position x pos) s = .next s.reportTaken) ∧
    ((∀ kind, c.status ≠ .queued kind) →
      (((c.state = .opened ∨ c.state = .passing) ∧ pos = .divert) ∨
        ((c.state = .diverted ∨ c.state = .holding) ∧ pos = .straight) ∨
        (c.state = .throwing ∧ (pos = .straight ∨ ∀ kind d, c.status ≠ .sent kind d)) ∨
        (c.state = .returning ∧ (pos = .divert ∨ ∀ kind d, c.status ≠ .sent kind d))) →
      exec (.position x pos) s = .next (emit [.notice (.crossoverFault x .wrongPosition)]
        (s.reportTaken.setCross x { c with state := .fault, status := .none }))) ∧
    ∀ kind deadline, c.status = .sent kind deadline → (s.time - deadline).toNat < 2 ^ 31 →
      exec (.confirmDeadlineExpiry x) s = .next (emit [.notice (.crossoverFault x .confirmTimeout)]
        (s.setCross x { c with state := .fault, status := .none }))

/-- A POSITION report taken while the command is still QUEUED: FAULT, its command leaves the section command queue
unsent, and the room goes to the lowest-numbered OWED RETURN, if there is one (R93, R97, R99, R102). -/
def Obligations.FaultOfAQueuedCommandGivesItsRoom : Prop :=
  ∀ (s : State) (x : CrossNo) (c : Crossover) (pos : Position) (kind : CommandKind)
    (left : List SectionCommand), c = s.cross x → c.status = .queued kind →
    c.state = .throwing ∨ c.state = .returning →
    left = s.commands.filter (fun d => d.crossover != x) →
    ((∀ y pulse, (s.cross y).status ≠ .owed pulse) →
      exec (.position x pos) s = .next (emit [.notice (.crossoverFault x .wrongPosition)]
        ({ s.reportTaken with commands := left }.setCross x
          { c with state := .fault, status := .none }))) ∧
    ∀ y pulse, (s.cross y).status = .owed pulse →
      (∀ z, z < y → ∀ q, (s.cross z).status ≠ .owed q) →
      exec (.position x pos) s = .next (emit [.notice (.crossoverFault x .wrongPosition)]
        (({ s.reportTaken with commands := left ++
            [(⟨y, .returning, pulse⟩ : SectionCommand)] }.setCross x
          { c with state := .fault, status := .none }).setCross y
          { s.cross y with status := .queued .returning }))

/-! ### Rail frames (R112 to R122, R126 to R133) -/

/-- The head frame that follows a reset opens round 0, and the one that follows a code frame the next round, 255
followed by 0; it carries the track state and cap. The code frame that follows the second gate frame carries the
code of slot (round mod 8) + 1, or silence (R59, R128, R129, R133). The frames that come in their place are the
model's reading of the fixed order of R126 (log entry 4). -/
def Obligations.HeadAndCodeFramesAreFormed : Prop :=
  ∀ s : State,
    (s.railFresh = true → exec .headFrame s = .next { s with
      roundNumber := 0, framePos := 0, railFresh := false
      railLine := some (.head 0 s.track s.cap) }) ∧
    (s.railFresh = false → s.framePos = 11 → ∃ round : BitVec 8,
      round.toNat = (s.roundNumber.toNat + 1) % 256 ∧
      exec .headFrame s = .next { s with
        roundNumber := round, framePos := 0, railFresh := false
        railLine := some (.head round s.track s.cap) }) ∧
    (s.railFresh = false → s.framePos = 10 → ∀ k : SlotNo, k.val = s.roundNumber.toNat % 8 →
      exec .codeFrame s = .next { s with
        framePos := 11, railLine := some (.code (s.code k)) })

/-- The drive frame of slot k in its place applies a pending profile, finds the step by the first row of Table 7-2
that holds, writes it as the last step and carries it with its four flags; nothing else changes (R113, with the
stages of R114 to R119 and the wish of R22). -/
def Obligations.DriveFrameFollowsTheTable : Prop :=
  ∀ (s : State) (k : SlotNo) (r : Slot) (p : Profile) (trigger u q target : Nat),
    BindingInv s → s.railFresh = false → s.framePos.val = k.val → r = s.slot k →
    p = r.pendingProfile.getD r.active →
    (∀ h e, r.source = .handset h → s.entry h = some e → trigger = e.sample.trigger.toNat) →
    u = (match p.curve with
      | .linear => trigger - p.db
      | .progressive => ((trigger - p.db) * (trigger - p.db) + 127) / 255) →
    q = ((u * p.gain + 128) / 256 * 63 + 127) / 255 →
    target = min (min (if 0 < q ∧ q < p.minrun then p.minrun else q) p.ceil) s.cap →
    ∃ (step : Nat) (wish : Bool),
      exec (.driveFrame k) s = .next { s.setSlot k { r with
          active := p, pendingProfile := none, wish := wish, lastStep := step } with
        framePos := k.castSucc.succ.castLE (by decide)
        railLine := some (.drive k step (decide (step = 0)) wish r.failsafe
          (decide (r.source ≠ .none))) } ∧
      (s.track ≠ .run → step = 0) ∧
      (s.track = .run → r.source = .none → step = 0) ∧
      (∀ h, s.track = .run → r.source = .handset h → r.failsafe = true →
        step = min (min (r.lastStep - p.decay) p.ceil) s.cap) ∧
      (∀ h, s.track = .run → r.source = .handset h → r.failsafe = false →
        step = min target (r.lastStep + p.rise)) ∧
      (∀ n, s.track = .run → r.source = .pace n →
        step = min (min (min n p.ceil) s.cap) (r.lastStep + p.rise)) ∧
      (p.policy = .hold → r.active.policy ≠ .hold → ∀ h e, r.source = .handset h →
        s.entry h = some e → wish = (!r.failsafe && e.sample.lc)) ∧
      (p.policy = .hold → r.active.policy ≠ .hold → (∀ h, r.source ≠ .handset h) →
        wish = false) ∧
      (p.policy ≠ .hold ∨ r.active.policy = .hold → wish = r.wish)

/-- Every drive frame formed carries a step of at most the active ceiling and the cap, 0 unless the track is RUN,
and never more than the rise limit above the frame before (R118, R121, R122). A frame asked for out of its place in
the round is not formed: the model's reading of the fixed order of R126 (log entry 4). -/
def Obligations.DriveStepStaysWithinItsBounds : Prop :=
  ∀ (s t : State) (k : SlotNo), exec (.driveFrame k) s = .next t →
    (s.railFresh = false ∧ s.framePos.val = k.val ∧
      ∃ step wish, t.railLine = some (.drive k step (decide (step = 0)) wish (s.slot k).failsafe
          (decide ((s.slot k).source ≠ .none))) ∧
        (t.slot k).lastStep = step ∧ step ≤ (t.slot k).active.ceil ∧ step ≤ s.cap ∧
        (s.track ≠ .run → step = 0) ∧ step ≤ (s.slot k).lastStep + (t.slot k).active.rise) ∨
      ((s.railFresh = true ∨ s.framePos.val ≠ k.val) ∧ t = s)

/-- A gate frame in its place is idle with the queue empty. Otherwise it carries the head command, whose crossover
is SENT with its confirm deadline, and the room goes to the lowest-numbered OWED RETURN, if there is one (R101,
R102, R131). -/
def Obligations.GateFrameTakesTheHeadCommand : Prop :=
  ∀ (s : State) (n : Fin 12), s.railFresh = false →
    (s.framePos = 8 ∧ n = 9) ∨ (s.framePos = 9 ∧ n = 10) →
    (s.commands = [] → exec .gateFrame s = .next { s with
      framePos := n, railLine := some (.gate none) }) ∧
    ∀ (d : SectionCommand) (rest : List SectionCommand) (c : Crossover),
      s.commands = d :: rest →
      c = { s.cross d.crossover with
        status := .sent d.kind (s.after (s.cross d.crossover).config.confirm) } →
      ((∀ y, y ≠ d.crossover → ∀ pulse, (s.cross y).status ≠ .owed pulse) →
        exec .gateFrame s = .next { s.setCross d.crossover c with
          commands := rest, framePos := n, railLine := some (.gate (some d)) }) ∧
      ∀ y pulse, y ≠ d.crossover → (s.cross y).status = .owed pulse →
        (∀ z, z < y → z ≠ d.crossover → ∀ q, (s.cross z).status ≠ .owed q) →
        exec .gateFrame s = .next { (s.setCross d.crossover c).setCross y
            { s.cross y with status := .queued .returning } with
          commands := rest ++ [⟨y, .returning, pulse⟩], framePos := n
          railLine := some (.gate (some d)) }

/-! ### The hand link and the section line (R108, R109, R142 to R147, R160) -/

/-- The frame on the hand link ends: the next part of the same reply follows; otherwise the head of the reply queue,
else of the echo queue, else of the notice queue goes on the line, and with all three empty the transmitter is free
(R145, R160). What is handed on while a frame is on the line is queued at its tail: a reply (R150); an echo, which
drops the oldest of a full queue; a notice, which a full queue discards and sets the overrun flag, carried and cleared
by the next notice queued (R146, R147, R158). A free transmitter with nothing waiting starts it at once (R145). -/
def Obligations.OutboundFramesLeaveByPrecedence : Prop :=
  (∀ (s : State) (o : Outbound) (frame next : OutFrame) (parts : List OutFrame), o = s.out →
    (o.transmitter = .sending frame (next :: parts) →
      exec .transmitterFrameEnd s = .next { s with
        out := { o with transmitter := .sending next parts } }) ∧
    (o.transmitter = .sending frame [] →
      (∀ tag code status bytes rest, o.replies = ⟨tag, code, status, .single bytes⟩ :: rest →
        exec .transmitterFrameEnd s = .next { s with out := { o with
          replies := rest, transmitter := .sending (.reply tag code status bytes) [] } }) ∧
      (∀ tag code status one two three rest,
        o.replies = ⟨tag, code, status, .parts one two three⟩ :: rest →
        exec .transmitterFrameEnd s = .next { s with out := { o with
          replies := rest
          transmitter := .sending (.reply tag code status (0x31 :: one))
            [.reply tag code status (0x32 :: two), .reply tag code status (0x33 :: three)] } }) ∧
      (∀ e rest, o.replies = [] → o.echoes = e :: rest →
        exec .transmitterFrameEnd s = .next { s with out := { o with
          echoes := rest, transmitter := .sending (.echo e) [] } }) ∧
      (∀ n rest, o.replies = [] → o.echoes = [] → o.notices = n :: rest →
        exec .transmitterFrameEnd s = .next { s with out := { o with
          notices := rest, transmitter := .sending (.notice n) [] } }) ∧
      (o.replies = [] → o.echoes = [] → o.notices = [] →
        exec .transmitterFrameEnd s = .next { s with out := { o with transmitter := .free } }))) ∧
  (∀ (o : Outbound) (frame : OutFrame) (parts : List OutFrame) (now : Time) (id : RadioId)
    (echo : EchoBody) (body : NoticeBody), o.transmitter = .sending frame parts →
    (o.echoes.length < 8 → o.hand now (.echo id echo) = { o with echoes := o.echoes ++ [⟨id, echo⟩] }) ∧
    (o.echoes.length = 8 →
      o.hand now (.echo id echo) = { o with echoes := o.echoes.drop 1 ++ [⟨id, echo⟩] }) ∧
    (o.notices.length < 32 → ∃ n : Notice, n.body = body ∧ n.overrun = o.overrun ∧
      n.time.toNat = now.toNat % 65536 ∧
      o.hand now (.notice body) = { o with notices := o.notices ++ [n], overrun := false }) ∧
    (o.notices.length = 32 → o.hand now (.notice body) = { o with overrun := true }) ∧
    ∀ r : Reply, o.hand now (.reply r) = { o with replies := o.replies ++ [r] }) ∧
  (∀ (o : Outbound) (now : Time), o.transmitter = .free → o.replies = [] → o.echoes = [] →
    o.notices = [] →
    (∀ tag code status bytes, o.hand now (.reply ⟨tag, code, status, .single bytes⟩) =
      { o with transmitter := .sending (.reply tag code status bytes) [] }) ∧
    (∀ tag code status one two three, o.hand now (.reply ⟨tag, code, status, .parts one two three⟩) =
      { o with
        transmitter := .sending (.reply tag code status (0x31 :: one))
          [.reply tag code status (0x32 :: two), .reply tag code status (0x33 :: three)] }) ∧
    (∀ id echo, o.hand now (.echo id echo) = { o with transmitter := .sending (.echo ⟨id, echo⟩) [] }) ∧
    ∀ body, ∃ n : Notice, n.body = body ∧ n.overrun = o.overrun ∧ n.time.toNat = now.toNat % 65536 ∧
      o.hand now (.notice body) = { o with overrun := false, transmitter := .sending (.notice n) [] })

/-- The bytes of a well-laid-out frame, received while the port hunts, are the command it stands for; and bytes may
be received in one run or in two (R108, R109, R142, R143, Tables 12-1, 12-2, 12-3 and 12-12). That the bytes come as
a discard command, and that UNKNOWN_REQUEST with a code of Table 12-4 is that request, is the model's choice (log
entries 7 and 12). -/
def Obligations.ReceivedFrameIsItsCommand : Prop :=
  (∀ (s : State) (payload : List Byte), s.handRx = [] → payload.length ≤ 24 →
    exec (.handLinkFrameDiscard (handFrame 0x10 payload)) s = exec (.sample payload) s) ∧
  (∀ (s : State) (tag code : Byte) (args : List Byte), s.handRx = [] → args.length + 2 ≤ 24 →
    (∀ r ∈ requestTable tag args,
      exec (.handLinkFrameDiscard (handFrame 0x20 (tag :: r.2.1 :: args))) s = exec r.1 s) ∧
    exec (.handLinkFrameDiscard (handFrame 0x20 (tag :: code :: args))) s =
      exec (.unknownRequest tag code args) s) ∧
  (∀ (s : State) (x : CrossNo) (sensor p w : Byte) (pos : Position), s.sectionRx = [] →
    exec (.sectionFrameDiscard (reportFrame (byte x.val) [sensor, p, w])) s =
      exec (.sighting x sensor p w) s ∧
    exec (.sectionFrameDiscard (reportFrame (byte (x.val + 16))
        [match pos with | .straight => 0 | .divert => 1])) s =
      exec (.position x pos) s) ∧
  ∀ (s t : State) (a b : List Byte),
    (exec (.handLinkFrameDiscard a) s = .next t →
      exec (.handLinkFrameDiscard (a ++ b)) s = exec (.handLinkFrameDiscard b) t) ∧
    (exec (.sectionFrameDiscard a) s = .next t →
      exec (.sectionFrameDiscard (a ++ b)) s = exec (.sectionFrameDiscard b) t)

/-- What the two lines discard, taken while the port hunts, leaves nothing: bytes before a start byte; a length over 24
or a head byte of another kind at once; a check that does not sum to 0; on the hand link a kind that is neither
SAMPLE nor REQUEST and a REQUEST under 2 bytes; on the section line a position byte that is neither STRAIGHT nor
DIVERT. After 2 ms a partial frame is dropped, and at every step the two buffers hold a frame in part (R108, R142,
R143). -/
def Obligations.LinesDiscardWhatFailsTheirChecks : Prop :=
  (∀ s : State,
    (s.handRx = [] →
      (∀ bytes : List Byte, (0xC3 : Byte) ∉ bytes →
        exec (.handLinkFrameDiscard bytes) s = .next s) ∧
      (∀ kind len : Byte, 24 < len.toNat →
        exec (.handLinkFrameDiscard [0xC3, kind, len]) s = .next s) ∧
      (∀ (kind check : Byte) (payload : List Byte), payload.length ≤ 24 →
        (kind :: byte payload.length :: payload).sum + check ≠ 0 →
        exec (.handLinkFrameDiscard ([0xC3, kind, byte payload.length] ++ payload ++ [check])) s =
          .next s) ∧
      (∀ (kind : Byte) (payload : List Byte), payload.length ≤ 24 → kind ≠ 0x10 →
        (kind = 0x20 → payload.length < 2) →
        exec (.handLinkFrameDiscard (handFrame kind payload)) s = .next s)) ∧
    exec .handLinkByteTimeout s = .next { s with handRx := [] }) ∧
  (∀ s : State,
    (s.sectionRx = [] →
      (∀ bytes : List Byte, (0xB4 : Byte) ∉ bytes →
        exec (.sectionFrameDiscard bytes) s = .next s) ∧
      (∀ head : Byte, 2 ≤ head.toNat / 16 % 4 →
        exec (.sectionFrameDiscard [0xB4, head]) s = .next s) ∧
      (∀ head a b c check : Byte, head.toNat / 16 % 4 = 0 → [head, a, b, c].sum + check ≠ 0 →
        exec (.sectionFrameDiscard [0xB4, head, a, b, c, check]) s = .next s) ∧
      (∀ head a check : Byte, head.toNat / 16 % 4 = 1 →
        [head, a].sum + check ≠ 0 ∨ 2 ≤ a.toNat →
        exec (.sectionFrameDiscard [0xB4, head, a, check]) s = .next s)) ∧
    exec .sectionByteTimeout s = .next { s with sectionRx := [] }) ∧
  ∀ s t : State, ReceiveInv s → step s = .next t → ReceiveInv t

/-- The layouts of Chapter 12. An outbound frame has its start byte, kind, length, payload and a check byte that makes
the sum 0 (R145, Table 12-1); REPLY, ECHO and NOTICE have the payloads and codes of Tables 10-2, 12-2, 12-3, 12-5, 12-6
and 12-7, with multi-byte numbers high byte first; each rail frame has its type and fields from the most significant
bit (R126, Table 12-13). -/
def Obligations.FramesAreLaidOut : Prop :=
  (∀ f : OutFrame, ∃ check : Byte,
    f.bytes = [0xC3, f.kind, byte f.payload.length] ++ f.payload ++ [check] ∧
    (f.kind :: byte f.payload.length :: f.payload).sum + check = 0) ∧
  (∀ (tag code : Byte) (status : ReplyStatus) (bytes : List Byte) (f : OutFrame),
    f = .reply tag code status bytes → f.kind = 0x21 ∧
    f.payload = [tag, code, match status with
      | .ok => 0x00 | .unknownRequest => 0x01 | .badLength => 0x02 | .badIndex => 0x03 | .noHandset => 0x10
      | .slotPace => 0x11 | .slotBound => 0x12 | .notPace => 0x13 | .codeClash => 0x14 | .notFaulted => 0x15
      | .zoneBusy => 0x16 | .cutoffActive => 0x17 | .lineActive => 0x18 | .notCutoff => 0x19] ++ bytes) ∧
  (∀ (e : Echo) (hi lo : Byte) (f : OutFrame), f = .echo e → e.radioId = hi ++ lo → f.kind = 0x11 ∧
    f.payload = [hi, lo] ++ (match e.body with
      | .tableFull => [0x01, 0] | .windowOpen seconds => [0x02, byte seconds] | .windowRefused => [0x03, 0]
      | .windowClosed reason => [0x04, match reason with
        | .bound => 0 | .expired => 1 | .cancelled => 2 | .lost => 3 | .superseded => 4]
      | .bound k => [0x05, byte (k.val + 1)] | .released => [0x06, 0])) ∧
  (∀ (n : Notice) (hi lo : Byte) (f : OutFrame) (outcomeByte : PassageOutcome → Byte), f = .notice n →
    n.time = hi ++ lo →
    (∀ o, outcomeByte o = (match o with
      | .changed => 0x01 | .missed => 0x02 | .forced => 0x04 | .stayed => 0x05 | .lostInZone => 0x06
      | .unverified => 0x07 | .denied .guarded => 0x23 | .denied .occupied => 0x33 | .denied .queue => 0x43
      | .denied .fault => 0x53)) →
    f.kind = 0x22 ∧ ∃ (code : Byte) (args : List Byte),
      f.payload = [code, if n.overrun then 1 else 0, hi, lo] ++ args ∧
      code :: args = (match n.body with
        | .started cause => [0x01, match cause with | .powerOn => 0 | .restart => 1]
        | .handsetLost h => [0x02, byte h.val] | .handsetReleased h => [0x03, byte h.val]
        | .windowOpen h => [0x04, byte h.val]
        | .windowClosed h reason => [0x05, byte h.val, match reason with
          | .bound => 0 | .expired => 1 | .cancelled => 2 | .lost => 3 | .superseded => 4]
        | .bound h k => [0x06, byte h.val, byte (k.val + 1)]
        | .lane x slot outcome => [0x07, byte x.val,
          (match slot with | none => 0 | some k => byte (k.val + 1)), outcomeByte outcome]
        | .crossoverFault x cause => [0x08, byte x.val,
          match cause with | .confirmTimeout => 0 | .wrongPosition => 1]
        | .cutoff => [0x09] | .cutoffCleared => [0x0A])) ∧
  (∀ (d : Decision) (o : PassageOutcome) (k : SlotNo),
    d.code = (match d with
      | .none => 0 | .honored => 1 | .denied .guarded => 2 | .denied .occupied => 3 | .denied .queue => 4
      | .denied .fault => 5) ∧
    o.code % 16 = (match o with
      | .changed => 1 | .missed => 2 | .denied _ => 3 | .forced => 4 | .stayed => 5 | .lostInZone => 6
      | .unverified => 7) ∧
    o.code / 16 = (match o with
      | .denied r => (Decision.denied r).code
      | .changed | .missed | .forced | .stayed | .lostInZone | .unverified => 0) ∧
    slotNumber none = 0 ∧ slotNumber (some k) = k.val + 1) ∧
  (∀ a b c d : Byte, bytes16 (a.toNat * 256 + b.toNat) = [a, b] ∧
    bytes24 ((a.toNat * 256 + b.toNat) * 256 + c.toNat) = [a, b, c] ∧
    bytes32 (((a.toNat * 256 + b.toNat) * 256 + c.toNat) * 256 + d.toNat) = [a, b, c, d]) ∧
  (∀ (round : BitVec 8) (track : TrackState) (cap : Nat), cap ≤ 63 →
    (RailFrame.head round track cap).bits =
      (0#2 ++ round ++ (match track with | .halt => 0#2 | .run => 1#2 | .cutoff => 2#2) ++
        BitVec.ofNat 6 cap : BitVec 18)) ∧
  (∀ (k : SlotNo) (step : Nat) (brake wish failsafe bound : Bool), step ≤ 63 →
    (RailFrame.drive k step brake wish failsafe bound).bits =
      (1#2 ++ BitVec.ofNat 6 step ++ BitVec.ofBool brake ++ BitVec.ofBool wish ++
        BitVec.ofBool failsafe ++ BitVec.ofBool bound ++ BitVec.ofNat 3 k.val ++ 0#3 : BitVec 18)) ∧
  (∀ (x : CrossNo) (kind : CommandKind) (pulse : Nat), pulse ≤ 60 →
    (RailFrame.gate (some ⟨x, kind, pulse⟩)).bits =
      (2#2 ++ BitVec.ofNat 4 x.val ++ (match kind with | .throwing => 1#2 | .returning => 2#2) ++
        BitVec.ofNat 6 pulse ++ 0#4 : BitVec 18)) ∧
  (RailFrame.gate none).bits = (2#2 ++ 0#16 : BitVec 18) ∧
  (∀ c d : Nat, c ≤ 255 → d ≤ 255 →
    (RailFrame.code (some ⟨c, d⟩)).bits =
      (3#2 ++ BitVec.ofNat 8 c ++ BitVec.ofNat 8 d : BitVec 18)) ∧
  (RailFrame.code none).bits = (3#2 ++ 0#16 : BitVec 18)
end

