-- ==== Sys2Proof/Laws/State.lean ====
section
/-! SUPPORT. One lemma per field per update of State, true by rfl, and the reading of a record after a record
is replaced: no later proof need unfold a record update. -/

namespace Sys2Proof.Machine

variable (s : State)

/-! ### Reading a record after one is replaced -/

@[simp] theorem entry_setEntry_self (h : EntryNo) (e : Entry) : (s.setEntry h e).entry h = e := by
  simp [State.setEntry, State.entry]

@[simp] theorem slot_setSlot_self (k : SlotNo) (r : Slot) : (s.setSlot k r).slot k = r := by
  simp [State.setSlot, State.slot]

@[simp] theorem cross_setCross_self (x : CrossNo) (c : Crossover) : (s.setCross x c).cross x = c := by
  simp [State.setCross, State.cross]

@[simp] theorem code_setCode_self (k : SlotNo) (c : Option Code) : (s.setCode k c).code k = c := by
  simp [State.setCode, State.code]

theorem entry_setEntry (g h : EntryNo) (e : Entry) :
    (s.setEntry h e).entry g = if h = g then e else s.entry g := by
  simp [State.setEntry, State.entry, Vector.getElem_set, Fin.ext_iff]

theorem slot_setSlot (j k : SlotNo) (r : Slot) :
    (s.setSlot k r).slot j = if k = j then r else s.slot j := by
  simp [State.setSlot, State.slot, Vector.getElem_set, Fin.ext_iff]

theorem cross_setCross (y x : CrossNo) (c : Crossover) :
    (s.setCross x c).cross y = if x = y then c else s.cross y := by
  simp [State.setCross, State.cross, Vector.getElem_set, Fin.ext_iff]

theorem code_setCode (j k : SlotNo) (c : Option Code) :
    (s.setCode k c).code j = if k = j then c else s.code j := by
  simp [State.setCode, State.code, Vector.getElem_set, Fin.ext_iff]

/-- Replacing an entry with itself changes nothing. -/
@[simp] theorem setEntry_entry (h : EntryNo) : s.setEntry h (s.entry h) = s := by
  simp [State.setEntry, State.entry]

/-- Replacing a slot record with itself changes nothing. -/
@[simp] theorem setSlot_slot (k : SlotNo) : s.setSlot k (s.slot k) = s := by
  simp [State.setSlot, State.slot]

/-- Replacing a crossover record with itself changes nothing. -/
@[simp] theorem setCross_cross (x : CrossNo) : s.setCross x (s.cross x) = s := by
  simp [State.setCross, State.cross]

/-- Of two replacements of one entry the later stands. -/
@[simp] theorem setEntry_setEntry (h : EntryNo) (d e : Entry) :
    (s.setEntry h d).setEntry h e = s.setEntry h e := by
  simp [State.setEntry]

/-- Of two replacements of one slot record the later stands. -/
@[simp] theorem setSlot_setSlot (k : SlotNo) (q r : Slot) :
    (s.setSlot k q).setSlot k r = s.setSlot k r := by
  simp [State.setSlot]

/-- Of two replacements of one crossover record the later stands. -/
@[simp] theorem setCross_setCross (x : CrossNo) (b c : Crossover) :
    (s.setCross x b).setCross x c = s.setCross x c := by
  simp [State.setCross]

/-- Reading a table after a function is applied to every member. -/
@[simp] theorem mapTable_getElem {α β : Type} {n : Nat} (f : α → β) (v : Vector α n) (i : Nat)
    (hi : i < n) : (mapTable f v)[i] = f v[i] := by
  simp [mapTable]

/-! ### Fields an operation leaves alone -/

@[simp] theorem setEntry_handRx (h : EntryNo) (e : Entry) : (s.setEntry h e).handRx = s.handRx := rfl
@[simp] theorem setEntry_out (h : EntryNo) (e : Entry) : (s.setEntry h e).out = s.out := rfl
@[simp] theorem setEntry_windows (h : EntryNo) (e : Entry) : (s.setEntry h e).windows = s.windows := rfl
@[simp] theorem setEntry_slots (h : EntryNo) (e : Entry) : (s.setEntry h e).slots = s.slots := rfl
@[simp] theorem setEntry_holding (h : EntryNo) (e : Entry) : (s.setEntry h e).holding = s.holding := rfl
@[simp] theorem setEntry_beacons (h : EntryNo) (e : Entry) : (s.setEntry h e).beacons = s.beacons := rfl
@[simp] theorem setEntry_tolerance (h : EntryNo) (e : Entry) : (s.setEntry h e).tolerance = s.tolerance := rfl
@[simp] theorem setEntry_crossovers (h : EntryNo) (e : Entry) : (s.setEntry h e).crossovers = s.crossovers := rfl
@[simp] theorem setEntry_commands (h : EntryNo) (e : Entry) : (s.setEntry h e).commands = s.commands := rfl
@[simp] theorem setEntry_sectionRx (h : EntryNo) (e : Entry) : (s.setEntry h e).sectionRx = s.sectionRx := rfl
@[simp] theorem setEntry_roundNumber (h : EntryNo) (e : Entry) : (s.setEntry h e).roundNumber = s.roundNumber := rfl
@[simp] theorem setEntry_framePos (h : EntryNo) (e : Entry) : (s.setEntry h e).framePos = s.framePos := rfl
@[simp] theorem setEntry_railFresh (h : EntryNo) (e : Entry) : (s.setEntry h e).railFresh = s.railFresh := rfl
@[simp] theorem setEntry_railLine (h : EntryNo) (e : Entry) : (s.setEntry h e).railLine = s.railLine := rfl
@[simp] theorem setEntry_track (h : EntryNo) (e : Entry) : (s.setEntry h e).track = s.track := rfl
@[simp] theorem setEntry_cap (h : EntryNo) (e : Entry) : (s.setEntry h e).cap = s.cap := rfl
@[simp] theorem setEntry_faultLine (h : EntryNo) (e : Entry) : (s.setEntry h e).faultLine = s.faultLine := rfl
@[simp] theorem setEntry_resetCause (h : EntryNo) (e : Entry) : (s.setEntry h e).resetCause = s.resetCause := rfl
@[simp] theorem setEntry_time (h : EntryNo) (e : Entry) : (s.setEntry h e).time = s.time := rfl
@[simp] theorem setEntry_silenceLimit (h : EntryNo) (e : Entry) : (s.setEntry h e).silenceLimit = s.silenceLimit := rfl
@[simp] theorem setEntry_releaseLimit (h : EntryNo) (e : Entry) : (s.setEntry h e).releaseLimit = s.releaseLimit := rfl
@[simp] theorem setEntry_windowLength (h : EntryNo) (e : Entry) : (s.setEntry h e).windowLength = s.windowLength := rfl
@[simp] theorem setEntry_pending (h : EntryNo) (e : Entry) : (s.setEntry h e).pending = s.pending := rfl
@[simp] theorem setEntry_freeDraws (h : EntryNo) (e : Entry) : (s.setEntry h e).freeDraws = s.freeDraws := rfl
@[simp] theorem setEntry_slot (h : EntryNo) (e : Entry) (k' : SlotNo) : (s.setEntry h e).slot k' = s.slot k' := rfl
@[simp] theorem setEntry_cross (h : EntryNo) (e : Entry) (x' : CrossNo) : (s.setEntry h e).cross x' = s.cross x' := rfl
@[simp] theorem setEntry_code (h : EntryNo) (e : Entry) (k' : SlotNo) : (s.setEntry h e).code k' = s.code k' := rfl

@[simp] theorem setSlot_handRx (k : SlotNo) (r : Slot) : (s.setSlot k r).handRx = s.handRx := rfl
@[simp] theorem setSlot_out (k : SlotNo) (r : Slot) : (s.setSlot k r).out = s.out := rfl
@[simp] theorem setSlot_handsets (k : SlotNo) (r : Slot) : (s.setSlot k r).handsets = s.handsets := rfl
@[simp] theorem setSlot_windows (k : SlotNo) (r : Slot) : (s.setSlot k r).windows = s.windows := rfl
@[simp] theorem setSlot_holding (k : SlotNo) (r : Slot) : (s.setSlot k r).holding = s.holding := rfl
@[simp] theorem setSlot_beacons (k : SlotNo) (r : Slot) : (s.setSlot k r).beacons = s.beacons := rfl
@[simp] theorem setSlot_tolerance (k : SlotNo) (r : Slot) : (s.setSlot k r).tolerance = s.tolerance := rfl
@[simp] theorem setSlot_crossovers (k : SlotNo) (r : Slot) : (s.setSlot k r).crossovers = s.crossovers := rfl
@[simp] theorem setSlot_commands (k : SlotNo) (r : Slot) : (s.setSlot k r).commands = s.commands := rfl
@[simp] theorem setSlot_sectionRx (k : SlotNo) (r : Slot) : (s.setSlot k r).sectionRx = s.sectionRx := rfl
@[simp] theorem setSlot_roundNumber (k : SlotNo) (r : Slot) : (s.setSlot k r).roundNumber = s.roundNumber := rfl
@[simp] theorem setSlot_framePos (k : SlotNo) (r : Slot) : (s.setSlot k r).framePos = s.framePos := rfl
@[simp] theorem setSlot_railFresh (k : SlotNo) (r : Slot) : (s.setSlot k r).railFresh = s.railFresh := rfl
@[simp] theorem setSlot_railLine (k : SlotNo) (r : Slot) : (s.setSlot k r).railLine = s.railLine := rfl
@[simp] theorem setSlot_track (k : SlotNo) (r : Slot) : (s.setSlot k r).track = s.track := rfl
@[simp] theorem setSlot_cap (k : SlotNo) (r : Slot) : (s.setSlot k r).cap = s.cap := rfl
@[simp] theorem setSlot_faultLine (k : SlotNo) (r : Slot) : (s.setSlot k r).faultLine = s.faultLine := rfl
@[simp] theorem setSlot_resetCause (k : SlotNo) (r : Slot) : (s.setSlot k r).resetCause = s.resetCause := rfl
@[simp] theorem setSlot_time (k : SlotNo) (r : Slot) : (s.setSlot k r).time = s.time := rfl
@[simp] theorem setSlot_silenceLimit (k : SlotNo) (r : Slot) : (s.setSlot k r).silenceLimit = s.silenceLimit := rfl
@[simp] theorem setSlot_releaseLimit (k : SlotNo) (r : Slot) : (s.setSlot k r).releaseLimit = s.releaseLimit := rfl
@[simp] theorem setSlot_windowLength (k : SlotNo) (r : Slot) : (s.setSlot k r).windowLength = s.windowLength := rfl
@[simp] theorem setSlot_pending (k : SlotNo) (r : Slot) : (s.setSlot k r).pending = s.pending := rfl
@[simp] theorem setSlot_freeDraws (k : SlotNo) (r : Slot) : (s.setSlot k r).freeDraws = s.freeDraws := rfl
@[simp] theorem setSlot_entry (k : SlotNo) (r : Slot) (h' : EntryNo) : (s.setSlot k r).entry h' = s.entry h' := rfl
@[simp] theorem setSlot_cross (k : SlotNo) (r : Slot) (x' : CrossNo) : (s.setSlot k r).cross x' = s.cross x' := rfl
@[simp] theorem setSlot_code (k : SlotNo) (r : Slot) (k' : SlotNo) : (s.setSlot k r).code k' = s.code k' := rfl

@[simp] theorem setCross_handRx (x : CrossNo) (c : Crossover) : (s.setCross x c).handRx = s.handRx := rfl
@[simp] theorem setCross_out (x : CrossNo) (c : Crossover) : (s.setCross x c).out = s.out := rfl
@[simp] theorem setCross_handsets (x : CrossNo) (c : Crossover) : (s.setCross x c).handsets = s.handsets := rfl
@[simp] theorem setCross_windows (x : CrossNo) (c : Crossover) : (s.setCross x c).windows = s.windows := rfl
@[simp] theorem setCross_slots (x : CrossNo) (c : Crossover) : (s.setCross x c).slots = s.slots := rfl
@[simp] theorem setCross_holding (x : CrossNo) (c : Crossover) : (s.setCross x c).holding = s.holding := rfl
@[simp] theorem setCross_beacons (x : CrossNo) (c : Crossover) : (s.setCross x c).beacons = s.beacons := rfl
@[simp] theorem setCross_tolerance (x : CrossNo) (c : Crossover) : (s.setCross x c).tolerance = s.tolerance := rfl
@[simp] theorem setCross_commands (x : CrossNo) (c : Crossover) : (s.setCross x c).commands = s.commands := rfl
@[simp] theorem setCross_sectionRx (x : CrossNo) (c : Crossover) : (s.setCross x c).sectionRx = s.sectionRx := rfl
@[simp] theorem setCross_roundNumber (x : CrossNo) (c : Crossover) : (s.setCross x c).roundNumber = s.roundNumber := rfl
@[simp] theorem setCross_framePos (x : CrossNo) (c : Crossover) : (s.setCross x c).framePos = s.framePos := rfl
@[simp] theorem setCross_railFresh (x : CrossNo) (c : Crossover) : (s.setCross x c).railFresh = s.railFresh := rfl
@[simp] theorem setCross_railLine (x : CrossNo) (c : Crossover) : (s.setCross x c).railLine = s.railLine := rfl
@[simp] theorem setCross_track (x : CrossNo) (c : Crossover) : (s.setCross x c).track = s.track := rfl
@[simp] theorem setCross_cap (x : CrossNo) (c : Crossover) : (s.setCross x c).cap = s.cap := rfl
@[simp] theorem setCross_faultLine (x : CrossNo) (c : Crossover) : (s.setCross x c).faultLine = s.faultLine := rfl
@[simp] theorem setCross_resetCause (x : CrossNo) (c : Crossover) : (s.setCross x c).resetCause = s.resetCause := rfl
@[simp] theorem setCross_time (x : CrossNo) (c : Crossover) : (s.setCross x c).time = s.time := rfl
@[simp] theorem setCross_silenceLimit (x : CrossNo) (c : Crossover) : (s.setCross x c).silenceLimit = s.silenceLimit := rfl
@[simp] theorem setCross_releaseLimit (x : CrossNo) (c : Crossover) : (s.setCross x c).releaseLimit = s.releaseLimit := rfl
@[simp] theorem setCross_windowLength (x : CrossNo) (c : Crossover) : (s.setCross x c).windowLength = s.windowLength := rfl
@[simp] theorem setCross_pending (x : CrossNo) (c : Crossover) : (s.setCross x c).pending = s.pending := rfl
@[simp] theorem setCross_freeDraws (x : CrossNo) (c : Crossover) : (s.setCross x c).freeDraws = s.freeDraws := rfl
@[simp] theorem setCross_entry (x : CrossNo) (c : Crossover) (h' : EntryNo) : (s.setCross x c).entry h' = s.entry h' := rfl
@[simp] theorem setCross_slot (x : CrossNo) (c : Crossover) (k' : SlotNo) : (s.setCross x c).slot k' = s.slot k' := rfl
@[simp] theorem setCross_code (x : CrossNo) (c : Crossover) (k' : SlotNo) : (s.setCross x c).code k' = s.code k' := rfl

@[simp] theorem setCode_handRx (k : SlotNo) (c : Option Code) : (s.setCode k c).handRx = s.handRx := rfl
@[simp] theorem setCode_out (k : SlotNo) (c : Option Code) : (s.setCode k c).out = s.out := rfl
@[simp] theorem setCode_handsets (k : SlotNo) (c : Option Code) : (s.setCode k c).handsets = s.handsets := rfl
@[simp] theorem setCode_windows (k : SlotNo) (c : Option Code) : (s.setCode k c).windows = s.windows := rfl
@[simp] theorem setCode_slots (k : SlotNo) (c : Option Code) : (s.setCode k c).slots = s.slots := rfl
@[simp] theorem setCode_holding (k : SlotNo) (c : Option Code) : (s.setCode k c).holding = s.holding := rfl
@[simp] theorem setCode_tolerance (k : SlotNo) (c : Option Code) : (s.setCode k c).tolerance = s.tolerance := rfl
@[simp] theorem setCode_crossovers (k : SlotNo) (c : Option Code) : (s.setCode k c).crossovers = s.crossovers := rfl
@[simp] theorem setCode_commands (k : SlotNo) (c : Option Code) : (s.setCode k c).commands = s.commands := rfl
@[simp] theorem setCode_sectionRx (k : SlotNo) (c : Option Code) : (s.setCode k c).sectionRx = s.sectionRx := rfl
@[simp] theorem setCode_roundNumber (k : SlotNo) (c : Option Code) : (s.setCode k c).roundNumber = s.roundNumber := rfl
@[simp] theorem setCode_framePos (k : SlotNo) (c : Option Code) : (s.setCode k c).framePos = s.framePos := rfl
@[simp] theorem setCode_railFresh (k : SlotNo) (c : Option Code) : (s.setCode k c).railFresh = s.railFresh := rfl
@[simp] theorem setCode_railLine (k : SlotNo) (c : Option Code) : (s.setCode k c).railLine = s.railLine := rfl
@[simp] theorem setCode_track (k : SlotNo) (c : Option Code) : (s.setCode k c).track = s.track := rfl
@[simp] theorem setCode_cap (k : SlotNo) (c : Option Code) : (s.setCode k c).cap = s.cap := rfl
@[simp] theorem setCode_faultLine (k : SlotNo) (c : Option Code) : (s.setCode k c).faultLine = s.faultLine := rfl
@[simp] theorem setCode_resetCause (k : SlotNo) (c : Option Code) : (s.setCode k c).resetCause = s.resetCause := rfl
@[simp] theorem setCode_time (k : SlotNo) (c : Option Code) : (s.setCode k c).time = s.time := rfl
@[simp] theorem setCode_silenceLimit (k : SlotNo) (c : Option Code) : (s.setCode k c).silenceLimit = s.silenceLimit := rfl
@[simp] theorem setCode_releaseLimit (k : SlotNo) (c : Option Code) : (s.setCode k c).releaseLimit = s.releaseLimit := rfl
@[simp] theorem setCode_windowLength (k : SlotNo) (c : Option Code) : (s.setCode k c).windowLength = s.windowLength := rfl
@[simp] theorem setCode_pending (k : SlotNo) (c : Option Code) : (s.setCode k c).pending = s.pending := rfl
@[simp] theorem setCode_freeDraws (k : SlotNo) (c : Option Code) : (s.setCode k c).freeDraws = s.freeDraws := rfl
@[simp] theorem setCode_entry (k : SlotNo) (c : Option Code) (h' : EntryNo) : (s.setCode k c).entry h' = s.entry h' := rfl
@[simp] theorem setCode_slot (k : SlotNo) (c : Option Code) (k' : SlotNo) : (s.setCode k c).slot k' = s.slot k' := rfl
@[simp] theorem setCode_cross (k : SlotNo) (c : Option Code) (x' : CrossNo) : (s.setCode k c).cross x' = s.cross x' := rfl

@[simp] theorem pushCommand_handRx (d : SectionCommand) : (s.pushCommand d).handRx = s.handRx := rfl
@[simp] theorem pushCommand_out (d : SectionCommand) : (s.pushCommand d).out = s.out := rfl
@[simp] theorem pushCommand_handsets (d : SectionCommand) : (s.pushCommand d).handsets = s.handsets := rfl
@[simp] theorem pushCommand_windows (d : SectionCommand) : (s.pushCommand d).windows = s.windows := rfl
@[simp] theorem pushCommand_slots (d : SectionCommand) : (s.pushCommand d).slots = s.slots := rfl
@[simp] theorem pushCommand_holding (d : SectionCommand) : (s.pushCommand d).holding = s.holding := rfl
@[simp] theorem pushCommand_beacons (d : SectionCommand) : (s.pushCommand d).beacons = s.beacons := rfl
@[simp] theorem pushCommand_tolerance (d : SectionCommand) : (s.pushCommand d).tolerance = s.tolerance := rfl
@[simp] theorem pushCommand_crossovers (d : SectionCommand) : (s.pushCommand d).crossovers = s.crossovers := rfl
@[simp] theorem pushCommand_sectionRx (d : SectionCommand) : (s.pushCommand d).sectionRx = s.sectionRx := rfl
@[simp] theorem pushCommand_roundNumber (d : SectionCommand) : (s.pushCommand d).roundNumber = s.roundNumber := rfl
@[simp] theorem pushCommand_framePos (d : SectionCommand) : (s.pushCommand d).framePos = s.framePos := rfl
@[simp] theorem pushCommand_railFresh (d : SectionCommand) : (s.pushCommand d).railFresh = s.railFresh := rfl
@[simp] theorem pushCommand_railLine (d : SectionCommand) : (s.pushCommand d).railLine = s.railLine := rfl
@[simp] theorem pushCommand_track (d : SectionCommand) : (s.pushCommand d).track = s.track := rfl
@[simp] theorem pushCommand_cap (d : SectionCommand) : (s.pushCommand d).cap = s.cap := rfl
@[simp] theorem pushCommand_faultLine (d : SectionCommand) : (s.pushCommand d).faultLine = s.faultLine := rfl
@[simp] theorem pushCommand_resetCause (d : SectionCommand) : (s.pushCommand d).resetCause = s.resetCause := rfl
@[simp] theorem pushCommand_time (d : SectionCommand) : (s.pushCommand d).time = s.time := rfl
@[simp] theorem pushCommand_silenceLimit (d : SectionCommand) : (s.pushCommand d).silenceLimit = s.silenceLimit := rfl
@[simp] theorem pushCommand_releaseLimit (d : SectionCommand) : (s.pushCommand d).releaseLimit = s.releaseLimit := rfl
@[simp] theorem pushCommand_windowLength (d : SectionCommand) : (s.pushCommand d).windowLength = s.windowLength := rfl
@[simp] theorem pushCommand_pending (d : SectionCommand) : (s.pushCommand d).pending = s.pending := rfl
@[simp] theorem pushCommand_freeDraws (d : SectionCommand) : (s.pushCommand d).freeDraws = s.freeDraws := rfl
@[simp] theorem pushCommand_entry (d : SectionCommand) (h' : EntryNo) : (s.pushCommand d).entry h' = s.entry h' := rfl
@[simp] theorem pushCommand_slot (d : SectionCommand) (k' : SlotNo) : (s.pushCommand d).slot k' = s.slot k' := rfl
@[simp] theorem pushCommand_cross (d : SectionCommand) (x' : CrossNo) : (s.pushCommand d).cross x' = s.cross x' := rfl
@[simp] theorem pushCommand_code (d : SectionCommand) (k' : SlotNo) : (s.pushCommand d).code k' = s.code k' := rfl

@[simp] theorem draw_handRx : s.draw.handRx = s.handRx := rfl
@[simp] theorem draw_out : s.draw.out = s.out := rfl
@[simp] theorem draw_handsets : s.draw.handsets = s.handsets := rfl
@[simp] theorem draw_windows : s.draw.windows = s.windows := rfl
@[simp] theorem draw_slots : s.draw.slots = s.slots := rfl
@[simp] theorem draw_holding : s.draw.holding = s.holding := rfl
@[simp] theorem draw_beacons : s.draw.beacons = s.beacons := rfl
@[simp] theorem draw_tolerance : s.draw.tolerance = s.tolerance := rfl
@[simp] theorem draw_crossovers : s.draw.crossovers = s.crossovers := rfl
@[simp] theorem draw_commands : s.draw.commands = s.commands := rfl
@[simp] theorem draw_sectionRx : s.draw.sectionRx = s.sectionRx := rfl
@[simp] theorem draw_roundNumber : s.draw.roundNumber = s.roundNumber := rfl
@[simp] theorem draw_framePos : s.draw.framePos = s.framePos := rfl
@[simp] theorem draw_railFresh : s.draw.railFresh = s.railFresh := rfl
@[simp] theorem draw_railLine : s.draw.railLine = s.railLine := rfl
@[simp] theorem draw_track : s.draw.track = s.track := rfl
@[simp] theorem draw_cap : s.draw.cap = s.cap := rfl
@[simp] theorem draw_faultLine : s.draw.faultLine = s.faultLine := rfl
@[simp] theorem draw_resetCause : s.draw.resetCause = s.resetCause := rfl
@[simp] theorem draw_time : s.draw.time = s.time := rfl
@[simp] theorem draw_silenceLimit : s.draw.silenceLimit = s.silenceLimit := rfl
@[simp] theorem draw_releaseLimit : s.draw.releaseLimit = s.releaseLimit := rfl
@[simp] theorem draw_windowLength : s.draw.windowLength = s.windowLength := rfl
@[simp] theorem draw_pending : s.draw.pending = s.pending := rfl
@[simp] theorem draw_entry (h' : EntryNo) : s.draw.entry h' = s.entry h' := rfl
@[simp] theorem draw_slot (k' : SlotNo) : s.draw.slot k' = s.slot k' := rfl
@[simp] theorem draw_cross (x' : CrossNo) : s.draw.cross x' = s.cross x' := rfl
@[simp] theorem draw_code (k' : SlotNo) : s.draw.code k' = s.code k' := rfl

@[simp] theorem tick_handRx : (tick s).handRx = s.handRx := rfl
@[simp] theorem tick_out : (tick s).out = s.out := rfl
@[simp] theorem tick_handsets : (tick s).handsets = s.handsets := rfl
@[simp] theorem tick_windows : (tick s).windows = s.windows := rfl
@[simp] theorem tick_slots : (tick s).slots = s.slots := rfl
@[simp] theorem tick_holding : (tick s).holding = s.holding := rfl
@[simp] theorem tick_beacons : (tick s).beacons = s.beacons := rfl
@[simp] theorem tick_tolerance : (tick s).tolerance = s.tolerance := rfl
@[simp] theorem tick_crossovers : (tick s).crossovers = s.crossovers := rfl
@[simp] theorem tick_commands : (tick s).commands = s.commands := rfl
@[simp] theorem tick_sectionRx : (tick s).sectionRx = s.sectionRx := rfl
@[simp] theorem tick_roundNumber : (tick s).roundNumber = s.roundNumber := rfl
@[simp] theorem tick_framePos : (tick s).framePos = s.framePos := rfl
@[simp] theorem tick_railFresh : (tick s).railFresh = s.railFresh := rfl
@[simp] theorem tick_railLine : (tick s).railLine = s.railLine := rfl
@[simp] theorem tick_track : (tick s).track = s.track := rfl
@[simp] theorem tick_cap : (tick s).cap = s.cap := rfl
@[simp] theorem tick_faultLine : (tick s).faultLine = s.faultLine := rfl
@[simp] theorem tick_resetCause : (tick s).resetCause = s.resetCause := rfl
@[simp] theorem tick_silenceLimit : (tick s).silenceLimit = s.silenceLimit := rfl
@[simp] theorem tick_releaseLimit : (tick s).releaseLimit = s.releaseLimit := rfl
@[simp] theorem tick_windowLength : (tick s).windowLength = s.windowLength := rfl
@[simp] theorem tick_pending : (tick s).pending = s.pending := rfl
@[simp] theorem tick_freeDraws : (tick s).freeDraws = s.freeDraws := rfl
@[simp] theorem tick_entry (h' : EntryNo) : (tick s).entry h' = s.entry h' := rfl
@[simp] theorem tick_slot (k' : SlotNo) : (tick s).slot k' = s.slot k' := rfl
@[simp] theorem tick_cross (x' : CrossNo) : (tick s).cross x' = s.cross x' := rfl
@[simp] theorem tick_code (k' : SlotNo) : (tick s).code k' = s.code k' := rfl

@[simp] theorem queueReply_handRx (r : Reply) : (queueReply r s).handRx = s.handRx := rfl
@[simp] theorem queueReply_handsets (r : Reply) : (queueReply r s).handsets = s.handsets := rfl
@[simp] theorem queueReply_windows (r : Reply) : (queueReply r s).windows = s.windows := rfl
@[simp] theorem queueReply_slots (r : Reply) : (queueReply r s).slots = s.slots := rfl
@[simp] theorem queueReply_holding (r : Reply) : (queueReply r s).holding = s.holding := rfl
@[simp] theorem queueReply_beacons (r : Reply) : (queueReply r s).beacons = s.beacons := rfl
@[simp] theorem queueReply_tolerance (r : Reply) : (queueReply r s).tolerance = s.tolerance := rfl
@[simp] theorem queueReply_crossovers (r : Reply) : (queueReply r s).crossovers = s.crossovers := rfl
@[simp] theorem queueReply_commands (r : Reply) : (queueReply r s).commands = s.commands := rfl
@[simp] theorem queueReply_sectionRx (r : Reply) : (queueReply r s).sectionRx = s.sectionRx := rfl
@[simp] theorem queueReply_roundNumber (r : Reply) : (queueReply r s).roundNumber = s.roundNumber := rfl
@[simp] theorem queueReply_framePos (r : Reply) : (queueReply r s).framePos = s.framePos := rfl
@[simp] theorem queueReply_railFresh (r : Reply) : (queueReply r s).railFresh = s.railFresh := rfl
@[simp] theorem queueReply_railLine (r : Reply) : (queueReply r s).railLine = s.railLine := rfl
@[simp] theorem queueReply_track (r : Reply) : (queueReply r s).track = s.track := rfl
@[simp] theorem queueReply_cap (r : Reply) : (queueReply r s).cap = s.cap := rfl
@[simp] theorem queueReply_faultLine (r : Reply) : (queueReply r s).faultLine = s.faultLine := rfl
@[simp] theorem queueReply_resetCause (r : Reply) : (queueReply r s).resetCause = s.resetCause := rfl
@[simp] theorem queueReply_time (r : Reply) : (queueReply r s).time = s.time := rfl
@[simp] theorem queueReply_silenceLimit (r : Reply) : (queueReply r s).silenceLimit = s.silenceLimit := rfl
@[simp] theorem queueReply_releaseLimit (r : Reply) : (queueReply r s).releaseLimit = s.releaseLimit := rfl
@[simp] theorem queueReply_windowLength (r : Reply) : (queueReply r s).windowLength = s.windowLength := rfl
@[simp] theorem queueReply_pending (r : Reply) : (queueReply r s).pending = s.pending := rfl
@[simp] theorem queueReply_freeDraws (r : Reply) : (queueReply r s).freeDraws = s.freeDraws := rfl
@[simp] theorem queueReply_entry (r : Reply) (h' : EntryNo) : (queueReply r s).entry h' = s.entry h' := rfl
@[simp] theorem queueReply_slot (r : Reply) (k' : SlotNo) : (queueReply r s).slot k' = s.slot k' := rfl
@[simp] theorem queueReply_cross (r : Reply) (x' : CrossNo) : (queueReply r s).cross x' = s.cross x' := rfl
@[simp] theorem queueReply_code (r : Reply) (k' : SlotNo) : (queueReply r s).code k' = s.code k' := rfl

@[simp] theorem queueEcho_handRx (id : RadioId) (b : EchoBody) : (queueEcho id b s).handRx = s.handRx := rfl
@[simp] theorem queueEcho_handsets (id : RadioId) (b : EchoBody) : (queueEcho id b s).handsets = s.handsets := rfl
@[simp] theorem queueEcho_windows (id : RadioId) (b : EchoBody) : (queueEcho id b s).windows = s.windows := rfl
@[simp] theorem queueEcho_slots (id : RadioId) (b : EchoBody) : (queueEcho id b s).slots = s.slots := rfl
@[simp] theorem queueEcho_holding (id : RadioId) (b : EchoBody) : (queueEcho id b s).holding = s.holding := rfl
@[simp] theorem queueEcho_beacons (id : RadioId) (b : EchoBody) : (queueEcho id b s).beacons = s.beacons := rfl
@[simp] theorem queueEcho_tolerance (id : RadioId) (b : EchoBody) : (queueEcho id b s).tolerance = s.tolerance := rfl
@[simp] theorem queueEcho_crossovers (id : RadioId) (b : EchoBody) : (queueEcho id b s).crossovers = s.crossovers := rfl
@[simp] theorem queueEcho_commands (id : RadioId) (b : EchoBody) : (queueEcho id b s).commands = s.commands := rfl
@[simp] theorem queueEcho_sectionRx (id : RadioId) (b : EchoBody) : (queueEcho id b s).sectionRx = s.sectionRx := rfl
@[simp] theorem queueEcho_roundNumber (id : RadioId) (b : EchoBody) : (queueEcho id b s).roundNumber = s.roundNumber := rfl
@[simp] theorem queueEcho_framePos (id : RadioId) (b : EchoBody) : (queueEcho id b s).framePos = s.framePos := rfl
@[simp] theorem queueEcho_railFresh (id : RadioId) (b : EchoBody) : (queueEcho id b s).railFresh = s.railFresh := rfl
@[simp] theorem queueEcho_railLine (id : RadioId) (b : EchoBody) : (queueEcho id b s).railLine = s.railLine := rfl
@[simp] theorem queueEcho_track (id : RadioId) (b : EchoBody) : (queueEcho id b s).track = s.track := rfl
@[simp] theorem queueEcho_cap (id : RadioId) (b : EchoBody) : (queueEcho id b s).cap = s.cap := rfl
@[simp] theorem queueEcho_faultLine (id : RadioId) (b : EchoBody) : (queueEcho id b s).faultLine = s.faultLine := rfl
@[simp] theorem queueEcho_resetCause (id : RadioId) (b : EchoBody) : (queueEcho id b s).resetCause = s.resetCause := rfl
@[simp] theorem queueEcho_time (id : RadioId) (b : EchoBody) : (queueEcho id b s).time = s.time := rfl
@[simp] theorem queueEcho_silenceLimit (id : RadioId) (b : EchoBody) : (queueEcho id b s).silenceLimit = s.silenceLimit := rfl
@[simp] theorem queueEcho_releaseLimit (id : RadioId) (b : EchoBody) : (queueEcho id b s).releaseLimit = s.releaseLimit := rfl
@[simp] theorem queueEcho_windowLength (id : RadioId) (b : EchoBody) : (queueEcho id b s).windowLength = s.windowLength := rfl
@[simp] theorem queueEcho_pending (id : RadioId) (b : EchoBody) : (queueEcho id b s).pending = s.pending := rfl
@[simp] theorem queueEcho_freeDraws (id : RadioId) (b : EchoBody) : (queueEcho id b s).freeDraws = s.freeDraws := rfl
@[simp] theorem queueEcho_entry (id : RadioId) (b : EchoBody) (h' : EntryNo) : (queueEcho id b s).entry h' = s.entry h' := rfl
@[simp] theorem queueEcho_slot (id : RadioId) (b : EchoBody) (k' : SlotNo) : (queueEcho id b s).slot k' = s.slot k' := rfl
@[simp] theorem queueEcho_cross (id : RadioId) (b : EchoBody) (x' : CrossNo) : (queueEcho id b s).cross x' = s.cross x' := rfl
@[simp] theorem queueEcho_code (id : RadioId) (b : EchoBody) (k' : SlotNo) : (queueEcho id b s).code k' = s.code k' := rfl

@[simp] theorem echoTo_handRx (h : EntryNo) (b : EchoBody) : (echoTo h b s).handRx = s.handRx := rfl
@[simp] theorem echoTo_handsets (h : EntryNo) (b : EchoBody) : (echoTo h b s).handsets = s.handsets := rfl
@[simp] theorem echoTo_windows (h : EntryNo) (b : EchoBody) : (echoTo h b s).windows = s.windows := rfl
@[simp] theorem echoTo_slots (h : EntryNo) (b : EchoBody) : (echoTo h b s).slots = s.slots := rfl
@[simp] theorem echoTo_holding (h : EntryNo) (b : EchoBody) : (echoTo h b s).holding = s.holding := rfl
@[simp] theorem echoTo_beacons (h : EntryNo) (b : EchoBody) : (echoTo h b s).beacons = s.beacons := rfl
@[simp] theorem echoTo_tolerance (h : EntryNo) (b : EchoBody) : (echoTo h b s).tolerance = s.tolerance := rfl
@[simp] theorem echoTo_crossovers (h : EntryNo) (b : EchoBody) : (echoTo h b s).crossovers = s.crossovers := rfl
@[simp] theorem echoTo_commands (h : EntryNo) (b : EchoBody) : (echoTo h b s).commands = s.commands := rfl
@[simp] theorem echoTo_sectionRx (h : EntryNo) (b : EchoBody) : (echoTo h b s).sectionRx = s.sectionRx := rfl
@[simp] theorem echoTo_roundNumber (h : EntryNo) (b : EchoBody) : (echoTo h b s).roundNumber = s.roundNumber := rfl
@[simp] theorem echoTo_framePos (h : EntryNo) (b : EchoBody) : (echoTo h b s).framePos = s.framePos := rfl
@[simp] theorem echoTo_railFresh (h : EntryNo) (b : EchoBody) : (echoTo h b s).railFresh = s.railFresh := rfl
@[simp] theorem echoTo_railLine (h : EntryNo) (b : EchoBody) : (echoTo h b s).railLine = s.railLine := rfl
@[simp] theorem echoTo_track (h : EntryNo) (b : EchoBody) : (echoTo h b s).track = s.track := rfl
@[simp] theorem echoTo_cap (h : EntryNo) (b : EchoBody) : (echoTo h b s).cap = s.cap := rfl
@[simp] theorem echoTo_faultLine (h : EntryNo) (b : EchoBody) : (echoTo h b s).faultLine = s.faultLine := rfl
@[simp] theorem echoTo_resetCause (h : EntryNo) (b : EchoBody) : (echoTo h b s).resetCause = s.resetCause := rfl
@[simp] theorem echoTo_time (h : EntryNo) (b : EchoBody) : (echoTo h b s).time = s.time := rfl
@[simp] theorem echoTo_silenceLimit (h : EntryNo) (b : EchoBody) : (echoTo h b s).silenceLimit = s.silenceLimit := rfl
@[simp] theorem echoTo_releaseLimit (h : EntryNo) (b : EchoBody) : (echoTo h b s).releaseLimit = s.releaseLimit := rfl
@[simp] theorem echoTo_windowLength (h : EntryNo) (b : EchoBody) : (echoTo h b s).windowLength = s.windowLength := rfl
@[simp] theorem echoTo_pending (h : EntryNo) (b : EchoBody) : (echoTo h b s).pending = s.pending := rfl
@[simp] theorem echoTo_freeDraws (h : EntryNo) (b : EchoBody) : (echoTo h b s).freeDraws = s.freeDraws := rfl
@[simp] theorem echoTo_entry (h : EntryNo) (b : EchoBody) (h' : EntryNo) : (echoTo h b s).entry h' = s.entry h' := rfl
@[simp] theorem echoTo_slot (h : EntryNo) (b : EchoBody) (k' : SlotNo) : (echoTo h b s).slot k' = s.slot k' := rfl
@[simp] theorem echoTo_cross (h : EntryNo) (b : EchoBody) (x' : CrossNo) : (echoTo h b s).cross x' = s.cross x' := rfl
@[simp] theorem echoTo_code (h : EntryNo) (b : EchoBody) (k' : SlotNo) : (echoTo h b s).code k' = s.code k' := rfl

@[simp] theorem queueNotice_handRx (b : NoticeBody) : (queueNotice b s).handRx = s.handRx := rfl
@[simp] theorem queueNotice_handsets (b : NoticeBody) : (queueNotice b s).handsets = s.handsets := rfl
@[simp] theorem queueNotice_windows (b : NoticeBody) : (queueNotice b s).windows = s.windows := rfl
@[simp] theorem queueNotice_slots (b : NoticeBody) : (queueNotice b s).slots = s.slots := rfl
@[simp] theorem queueNotice_holding (b : NoticeBody) : (queueNotice b s).holding = s.holding := rfl
@[simp] theorem queueNotice_beacons (b : NoticeBody) : (queueNotice b s).beacons = s.beacons := rfl
@[simp] theorem queueNotice_tolerance (b : NoticeBody) : (queueNotice b s).tolerance = s.tolerance := rfl
@[simp] theorem queueNotice_crossovers (b : NoticeBody) : (queueNotice b s).crossovers = s.crossovers := rfl
@[simp] theorem queueNotice_commands (b : NoticeBody) : (queueNotice b s).commands = s.commands := rfl
@[simp] theorem queueNotice_sectionRx (b : NoticeBody) : (queueNotice b s).sectionRx = s.sectionRx := rfl
@[simp] theorem queueNotice_roundNumber (b : NoticeBody) : (queueNotice b s).roundNumber = s.roundNumber := rfl
@[simp] theorem queueNotice_framePos (b : NoticeBody) : (queueNotice b s).framePos = s.framePos := rfl
@[simp] theorem queueNotice_railFresh (b : NoticeBody) : (queueNotice b s).railFresh = s.railFresh := rfl
@[simp] theorem queueNotice_railLine (b : NoticeBody) : (queueNotice b s).railLine = s.railLine := rfl
@[simp] theorem queueNotice_track (b : NoticeBody) : (queueNotice b s).track = s.track := rfl
@[simp] theorem queueNotice_cap (b : NoticeBody) : (queueNotice b s).cap = s.cap := rfl
@[simp] theorem queueNotice_faultLine (b : NoticeBody) : (queueNotice b s).faultLine = s.faultLine := rfl
@[simp] theorem queueNotice_resetCause (b : NoticeBody) : (queueNotice b s).resetCause = s.resetCause := rfl
@[simp] theorem queueNotice_time (b : NoticeBody) : (queueNotice b s).time = s.time := rfl
@[simp] theorem queueNotice_silenceLimit (b : NoticeBody) : (queueNotice b s).silenceLimit = s.silenceLimit := rfl
@[simp] theorem queueNotice_releaseLimit (b : NoticeBody) : (queueNotice b s).releaseLimit = s.releaseLimit := rfl
@[simp] theorem queueNotice_windowLength (b : NoticeBody) : (queueNotice b s).windowLength = s.windowLength := rfl
@[simp] theorem queueNotice_pending (b : NoticeBody) : (queueNotice b s).pending = s.pending := rfl
@[simp] theorem queueNotice_freeDraws (b : NoticeBody) : (queueNotice b s).freeDraws = s.freeDraws := rfl
@[simp] theorem queueNotice_entry (b : NoticeBody) (h' : EntryNo) : (queueNotice b s).entry h' = s.entry h' := rfl
@[simp] theorem queueNotice_slot (b : NoticeBody) (k' : SlotNo) : (queueNotice b s).slot k' = s.slot k' := rfl
@[simp] theorem queueNotice_cross (b : NoticeBody) (x' : CrossNo) : (queueNotice b s).cross x' = s.cross x' := rfl
@[simp] theorem queueNotice_code (b : NoticeBody) (k' : SlotNo) : (queueNotice b s).code k' = s.code k' := rfl

@[simp] theorem endFrame_handRx : (endFrame s).handRx = s.handRx := rfl
@[simp] theorem endFrame_handsets : (endFrame s).handsets = s.handsets := rfl
@[simp] theorem endFrame_windows : (endFrame s).windows = s.windows := rfl
@[simp] theorem endFrame_slots : (endFrame s).slots = s.slots := rfl
@[simp] theorem endFrame_holding : (endFrame s).holding = s.holding := rfl
@[simp] theorem endFrame_beacons : (endFrame s).beacons = s.beacons := rfl
@[simp] theorem endFrame_tolerance : (endFrame s).tolerance = s.tolerance := rfl
@[simp] theorem endFrame_crossovers : (endFrame s).crossovers = s.crossovers := rfl
@[simp] theorem endFrame_commands : (endFrame s).commands = s.commands := rfl
@[simp] theorem endFrame_sectionRx : (endFrame s).sectionRx = s.sectionRx := rfl
@[simp] theorem endFrame_roundNumber : (endFrame s).roundNumber = s.roundNumber := rfl
@[simp] theorem endFrame_framePos : (endFrame s).framePos = s.framePos := rfl
@[simp] theorem endFrame_railFresh : (endFrame s).railFresh = s.railFresh := rfl
@[simp] theorem endFrame_railLine : (endFrame s).railLine = s.railLine := rfl
@[simp] theorem endFrame_track : (endFrame s).track = s.track := rfl
@[simp] theorem endFrame_cap : (endFrame s).cap = s.cap := rfl
@[simp] theorem endFrame_faultLine : (endFrame s).faultLine = s.faultLine := rfl
@[simp] theorem endFrame_resetCause : (endFrame s).resetCause = s.resetCause := rfl
@[simp] theorem endFrame_time : (endFrame s).time = s.time := rfl
@[simp] theorem endFrame_silenceLimit : (endFrame s).silenceLimit = s.silenceLimit := rfl
@[simp] theorem endFrame_releaseLimit : (endFrame s).releaseLimit = s.releaseLimit := rfl
@[simp] theorem endFrame_windowLength : (endFrame s).windowLength = s.windowLength := rfl
@[simp] theorem endFrame_pending : (endFrame s).pending = s.pending := rfl
@[simp] theorem endFrame_freeDraws : (endFrame s).freeDraws = s.freeDraws := rfl
@[simp] theorem endFrame_entry (h' : EntryNo) : (endFrame s).entry h' = s.entry h' := rfl
@[simp] theorem endFrame_slot (k' : SlotNo) : (endFrame s).slot k' = s.slot k' := rfl
@[simp] theorem endFrame_cross (x' : CrossNo) : (endFrame s).cross x' = s.cross x' := rfl
@[simp] theorem endFrame_code (k' : SlotNo) : (endFrame s).code k' = s.code k' := rfl

@[simp] theorem setWish_handRx (k : SlotNo) (w : Bool) : (setWish k w s).handRx = s.handRx := rfl
@[simp] theorem setWish_out (k : SlotNo) (w : Bool) : (setWish k w s).out = s.out := rfl
@[simp] theorem setWish_handsets (k : SlotNo) (w : Bool) : (setWish k w s).handsets = s.handsets := rfl
@[simp] theorem setWish_windows (k : SlotNo) (w : Bool) : (setWish k w s).windows = s.windows := rfl
@[simp] theorem setWish_holding (k : SlotNo) (w : Bool) : (setWish k w s).holding = s.holding := rfl
@[simp] theorem setWish_beacons (k : SlotNo) (w : Bool) : (setWish k w s).beacons = s.beacons := rfl
@[simp] theorem setWish_tolerance (k : SlotNo) (w : Bool) : (setWish k w s).tolerance = s.tolerance := rfl
@[simp] theorem setWish_crossovers (k : SlotNo) (w : Bool) : (setWish k w s).crossovers = s.crossovers := rfl
@[simp] theorem setWish_commands (k : SlotNo) (w : Bool) : (setWish k w s).commands = s.commands := rfl
@[simp] theorem setWish_sectionRx (k : SlotNo) (w : Bool) : (setWish k w s).sectionRx = s.sectionRx := rfl
@[simp] theorem setWish_roundNumber (k : SlotNo) (w : Bool) : (setWish k w s).roundNumber = s.roundNumber := rfl
@[simp] theorem setWish_framePos (k : SlotNo) (w : Bool) : (setWish k w s).framePos = s.framePos := rfl
@[simp] theorem setWish_railFresh (k : SlotNo) (w : Bool) : (setWish k w s).railFresh = s.railFresh := rfl
@[simp] theorem setWish_railLine (k : SlotNo) (w : Bool) : (setWish k w s).railLine = s.railLine := rfl
@[simp] theorem setWish_track (k : SlotNo) (w : Bool) : (setWish k w s).track = s.track := rfl
@[simp] theorem setWish_cap (k : SlotNo) (w : Bool) : (setWish k w s).cap = s.cap := rfl
@[simp] theorem setWish_faultLine (k : SlotNo) (w : Bool) : (setWish k w s).faultLine = s.faultLine := rfl
@[simp] theorem setWish_resetCause (k : SlotNo) (w : Bool) : (setWish k w s).resetCause = s.resetCause := rfl
@[simp] theorem setWish_time (k : SlotNo) (w : Bool) : (setWish k w s).time = s.time := rfl
@[simp] theorem setWish_silenceLimit (k : SlotNo) (w : Bool) : (setWish k w s).silenceLimit = s.silenceLimit := rfl
@[simp] theorem setWish_releaseLimit (k : SlotNo) (w : Bool) : (setWish k w s).releaseLimit = s.releaseLimit := rfl
@[simp] theorem setWish_windowLength (k : SlotNo) (w : Bool) : (setWish k w s).windowLength = s.windowLength := rfl
@[simp] theorem setWish_pending (k : SlotNo) (w : Bool) : (setWish k w s).pending = s.pending := rfl
@[simp] theorem setWish_freeDraws (k : SlotNo) (w : Bool) : (setWish k w s).freeDraws = s.freeDraws := rfl
@[simp] theorem setWish_entry (k : SlotNo) (w : Bool) (h' : EntryNo) : (setWish k w s).entry h' = s.entry h' := rfl
@[simp] theorem setWish_cross (k : SlotNo) (w : Bool) (x' : CrossNo) : (setWish k w s).cross x' = s.cross x' := rfl
@[simp] theorem setWish_code (k : SlotNo) (w : Bool) (k' : SlotNo) : (setWish k w s).code k' = s.code k' := rfl

@[simp] theorem setFailsafe_handRx (k : SlotNo) (w : Bool) : (setFailsafe k w s).handRx = s.handRx := rfl
@[simp] theorem setFailsafe_out (k : SlotNo) (w : Bool) : (setFailsafe k w s).out = s.out := rfl
@[simp] theorem setFailsafe_handsets (k : SlotNo) (w : Bool) : (setFailsafe k w s).handsets = s.handsets := rfl
@[simp] theorem setFailsafe_windows (k : SlotNo) (w : Bool) : (setFailsafe k w s).windows = s.windows := rfl
@[simp] theorem setFailsafe_holding (k : SlotNo) (w : Bool) : (setFailsafe k w s).holding = s.holding := rfl
@[simp] theorem setFailsafe_beacons (k : SlotNo) (w : Bool) : (setFailsafe k w s).beacons = s.beacons := rfl
@[simp] theorem setFailsafe_tolerance (k : SlotNo) (w : Bool) : (setFailsafe k w s).tolerance = s.tolerance := rfl
@[simp] theorem setFailsafe_crossovers (k : SlotNo) (w : Bool) : (setFailsafe k w s).crossovers = s.crossovers := rfl
@[simp] theorem setFailsafe_commands (k : SlotNo) (w : Bool) : (setFailsafe k w s).commands = s.commands := rfl
@[simp] theorem setFailsafe_sectionRx (k : SlotNo) (w : Bool) : (setFailsafe k w s).sectionRx = s.sectionRx := rfl
@[simp] theorem setFailsafe_roundNumber (k : SlotNo) (w : Bool) : (setFailsafe k w s).roundNumber = s.roundNumber := rfl
@[simp] theorem setFailsafe_framePos (k : SlotNo) (w : Bool) : (setFailsafe k w s).framePos = s.framePos := rfl
@[simp] theorem setFailsafe_railFresh (k : SlotNo) (w : Bool) : (setFailsafe k w s).railFresh = s.railFresh := rfl
@[simp] theorem setFailsafe_railLine (k : SlotNo) (w : Bool) : (setFailsafe k w s).railLine = s.railLine := rfl
@[simp] theorem setFailsafe_track (k : SlotNo) (w : Bool) : (setFailsafe k w s).track = s.track := rfl
@[simp] theorem setFailsafe_cap (k : SlotNo) (w : Bool) : (setFailsafe k w s).cap = s.cap := rfl
@[simp] theorem setFailsafe_faultLine (k : SlotNo) (w : Bool) : (setFailsafe k w s).faultLine = s.faultLine := rfl
@[simp] theorem setFailsafe_resetCause (k : SlotNo) (w : Bool) : (setFailsafe k w s).resetCause = s.resetCause := rfl
@[simp] theorem setFailsafe_time (k : SlotNo) (w : Bool) : (setFailsafe k w s).time = s.time := rfl
@[simp] theorem setFailsafe_silenceLimit (k : SlotNo) (w : Bool) : (setFailsafe k w s).silenceLimit = s.silenceLimit := rfl
@[simp] theorem setFailsafe_releaseLimit (k : SlotNo) (w : Bool) : (setFailsafe k w s).releaseLimit = s.releaseLimit := rfl
@[simp] theorem setFailsafe_windowLength (k : SlotNo) (w : Bool) : (setFailsafe k w s).windowLength = s.windowLength := rfl
@[simp] theorem setFailsafe_pending (k : SlotNo) (w : Bool) : (setFailsafe k w s).pending = s.pending := rfl
@[simp] theorem setFailsafe_freeDraws (k : SlotNo) (w : Bool) : (setFailsafe k w s).freeDraws = s.freeDraws := rfl
@[simp] theorem setFailsafe_entry (k : SlotNo) (w : Bool) (h' : EntryNo) : (setFailsafe k w s).entry h' = s.entry h' := rfl
@[simp] theorem setFailsafe_cross (k : SlotNo) (w : Bool) (x' : CrossNo) : (setFailsafe k w s).cross x' = s.cross x' := rfl
@[simp] theorem setFailsafe_code (k : SlotNo) (w : Bool) (k' : SlotNo) : (setFailsafe k w s).code k' = s.code k' := rfl

@[simp] theorem setBound_handRx (h : EntryNo) (k : Option SlotNo) : (setBound h k s).handRx = s.handRx := rfl
@[simp] theorem setBound_out (h : EntryNo) (k : Option SlotNo) : (setBound h k s).out = s.out := rfl
@[simp] theorem setBound_windows (h : EntryNo) (k : Option SlotNo) : (setBound h k s).windows = s.windows := rfl
@[simp] theorem setBound_slots (h : EntryNo) (k : Option SlotNo) : (setBound h k s).slots = s.slots := rfl
@[simp] theorem setBound_holding (h : EntryNo) (k : Option SlotNo) : (setBound h k s).holding = s.holding := rfl
@[simp] theorem setBound_beacons (h : EntryNo) (k : Option SlotNo) : (setBound h k s).beacons = s.beacons := rfl
@[simp] theorem setBound_tolerance (h : EntryNo) (k : Option SlotNo) : (setBound h k s).tolerance = s.tolerance := rfl
@[simp] theorem setBound_crossovers (h : EntryNo) (k : Option SlotNo) : (setBound h k s).crossovers = s.crossovers := rfl
@[simp] theorem setBound_commands (h : EntryNo) (k : Option SlotNo) : (setBound h k s).commands = s.commands := rfl
@[simp] theorem setBound_sectionRx (h : EntryNo) (k : Option SlotNo) : (setBound h k s).sectionRx = s.sectionRx := rfl
@[simp] theorem setBound_roundNumber (h : EntryNo) (k : Option SlotNo) : (setBound h k s).roundNumber = s.roundNumber := rfl
@[simp] theorem setBound_framePos (h : EntryNo) (k : Option SlotNo) : (setBound h k s).framePos = s.framePos := rfl
@[simp] theorem setBound_railFresh (h : EntryNo) (k : Option SlotNo) : (setBound h k s).railFresh = s.railFresh := rfl
@[simp] theorem setBound_railLine (h : EntryNo) (k : Option SlotNo) : (setBound h k s).railLine = s.railLine := rfl
@[simp] theorem setBound_track (h : EntryNo) (k : Option SlotNo) : (setBound h k s).track = s.track := rfl
@[simp] theorem setBound_cap (h : EntryNo) (k : Option SlotNo) : (setBound h k s).cap = s.cap := rfl
@[simp] theorem setBound_faultLine (h : EntryNo) (k : Option SlotNo) : (setBound h k s).faultLine = s.faultLine := rfl
@[simp] theorem setBound_resetCause (h : EntryNo) (k : Option SlotNo) : (setBound h k s).resetCause = s.resetCause := rfl
@[simp] theorem setBound_time (h : EntryNo) (k : Option SlotNo) : (setBound h k s).time = s.time := rfl
@[simp] theorem setBound_silenceLimit (h : EntryNo) (k : Option SlotNo) : (setBound h k s).silenceLimit = s.silenceLimit := rfl
@[simp] theorem setBound_releaseLimit (h : EntryNo) (k : Option SlotNo) : (setBound h k s).releaseLimit = s.releaseLimit := rfl
@[simp] theorem setBound_windowLength (h : EntryNo) (k : Option SlotNo) : (setBound h k s).windowLength = s.windowLength := rfl
@[simp] theorem setBound_pending (h : EntryNo) (k : Option SlotNo) : (setBound h k s).pending = s.pending := rfl
@[simp] theorem setBound_freeDraws (h : EntryNo) (k : Option SlotNo) : (setBound h k s).freeDraws = s.freeDraws := rfl
@[simp] theorem setBound_slot (h : EntryNo) (k : Option SlotNo) (k' : SlotNo) : (setBound h k s).slot k' = s.slot k' := rfl
@[simp] theorem setBound_cross (h : EntryNo) (k : Option SlotNo) (x' : CrossNo) : (setBound h k s).cross x' = s.cross x' := rfl
@[simp] theorem setBound_code (h : EntryNo) (k : Option SlotNo) (k' : SlotNo) : (setBound h k s).code k' = s.code k' := rfl

@[simp] theorem setWindowField_handRx (h : EntryNo) (w : Bool) : (setWindowField h w s).handRx = s.handRx := rfl
@[simp] theorem setWindowField_out (h : EntryNo) (w : Bool) : (setWindowField h w s).out = s.out := rfl
@[simp] theorem setWindowField_windows (h : EntryNo) (w : Bool) : (setWindowField h w s).windows = s.windows := rfl
@[simp] theorem setWindowField_slots (h : EntryNo) (w : Bool) : (setWindowField h w s).slots = s.slots := rfl
@[simp] theorem setWindowField_holding (h : EntryNo) (w : Bool) : (setWindowField h w s).holding = s.holding := rfl
@[simp] theorem setWindowField_beacons (h : EntryNo) (w : Bool) : (setWindowField h w s).beacons = s.beacons := rfl
@[simp] theorem setWindowField_tolerance (h : EntryNo) (w : Bool) : (setWindowField h w s).tolerance = s.tolerance := rfl
@[simp] theorem setWindowField_crossovers (h : EntryNo) (w : Bool) : (setWindowField h w s).crossovers = s.crossovers := rfl
@[simp] theorem setWindowField_commands (h : EntryNo) (w : Bool) : (setWindowField h w s).commands = s.commands := rfl
@[simp] theorem setWindowField_sectionRx (h : EntryNo) (w : Bool) : (setWindowField h w s).sectionRx = s.sectionRx := rfl
@[simp] theorem setWindowField_roundNumber (h : EntryNo) (w : Bool) : (setWindowField h w s).roundNumber = s.roundNumber := rfl
@[simp] theorem setWindowField_framePos (h : EntryNo) (w : Bool) : (setWindowField h w s).framePos = s.framePos := rfl
@[simp] theorem setWindowField_railFresh (h : EntryNo) (w : Bool) : (setWindowField h w s).railFresh = s.railFresh := rfl
@[simp] theorem setWindowField_railLine (h : EntryNo) (w : Bool) : (setWindowField h w s).railLine = s.railLine := rfl
@[simp] theorem setWindowField_track (h : EntryNo) (w : Bool) : (setWindowField h w s).track = s.track := rfl
@[simp] theorem setWindowField_cap (h : EntryNo) (w : Bool) : (setWindowField h w s).cap = s.cap := rfl
@[simp] theorem setWindowField_faultLine (h : EntryNo) (w : Bool) : (setWindowField h w s).faultLine = s.faultLine := rfl
@[simp] theorem setWindowField_resetCause (h : EntryNo) (w : Bool) : (setWindowField h w s).resetCause = s.resetCause := rfl
@[simp] theorem setWindowField_time (h : EntryNo) (w : Bool) : (setWindowField h w s).time = s.time := rfl
@[simp] theorem setWindowField_silenceLimit (h : EntryNo) (w : Bool) : (setWindowField h w s).silenceLimit = s.silenceLimit := rfl
@[simp] theorem setWindowField_releaseLimit (h : EntryNo) (w : Bool) : (setWindowField h w s).releaseLimit = s.releaseLimit := rfl
@[simp] theorem setWindowField_windowLength (h : EntryNo) (w : Bool) : (setWindowField h w s).windowLength = s.windowLength := rfl
@[simp] theorem setWindowField_pending (h : EntryNo) (w : Bool) : (setWindowField h w s).pending = s.pending := rfl
@[simp] theorem setWindowField_freeDraws (h : EntryNo) (w : Bool) : (setWindowField h w s).freeDraws = s.freeDraws := rfl
@[simp] theorem setWindowField_slot (h : EntryNo) (w : Bool) (k' : SlotNo) : (setWindowField h w s).slot k' = s.slot k' := rfl
@[simp] theorem setWindowField_cross (h : EntryNo) (w : Bool) (x' : CrossNo) : (setWindowField h w s).cross x' = s.cross x' := rfl
@[simp] theorem setWindowField_code (h : EntryNo) (w : Bool) (k' : SlotNo) : (setWindowField h w s).code k' = s.code k' := rfl

@[simp] theorem makeBinding_handRx (h : EntryNo) (k : SlotNo) : (makeBinding h k s).handRx = s.handRx := rfl
@[simp] theorem makeBinding_out (h : EntryNo) (k : SlotNo) : (makeBinding h k s).out = s.out := rfl
@[simp] theorem makeBinding_windows (h : EntryNo) (k : SlotNo) : (makeBinding h k s).windows = s.windows := rfl
@[simp] theorem makeBinding_holding (h : EntryNo) (k : SlotNo) : (makeBinding h k s).holding = s.holding := rfl
@[simp] theorem makeBinding_beacons (h : EntryNo) (k : SlotNo) : (makeBinding h k s).beacons = s.beacons := rfl
@[simp] theorem makeBinding_tolerance (h : EntryNo) (k : SlotNo) : (makeBinding h k s).tolerance = s.tolerance := rfl
@[simp] theorem makeBinding_crossovers (h : EntryNo) (k : SlotNo) : (makeBinding h k s).crossovers = s.crossovers := rfl
@[simp] theorem makeBinding_commands (h : EntryNo) (k : SlotNo) : (makeBinding h k s).commands = s.commands := rfl
@[simp] theorem makeBinding_sectionRx (h : EntryNo) (k : SlotNo) : (makeBinding h k s).sectionRx = s.sectionRx := rfl
@[simp] theorem makeBinding_roundNumber (h : EntryNo) (k : SlotNo) : (makeBinding h k s).roundNumber = s.roundNumber := rfl
@[simp] theorem makeBinding_framePos (h : EntryNo) (k : SlotNo) : (makeBinding h k s).framePos = s.framePos := rfl
@[simp] theorem makeBinding_railFresh (h : EntryNo) (k : SlotNo) : (makeBinding h k s).railFresh = s.railFresh := rfl
@[simp] theorem makeBinding_railLine (h : EntryNo) (k : SlotNo) : (makeBinding h k s).railLine = s.railLine := rfl
@[simp] theorem makeBinding_track (h : EntryNo) (k : SlotNo) : (makeBinding h k s).track = s.track := rfl
@[simp] theorem makeBinding_cap (h : EntryNo) (k : SlotNo) : (makeBinding h k s).cap = s.cap := rfl
@[simp] theorem makeBinding_faultLine (h : EntryNo) (k : SlotNo) : (makeBinding h k s).faultLine = s.faultLine := rfl
@[simp] theorem makeBinding_resetCause (h : EntryNo) (k : SlotNo) : (makeBinding h k s).resetCause = s.resetCause := rfl
@[simp] theorem makeBinding_time (h : EntryNo) (k : SlotNo) : (makeBinding h k s).time = s.time := rfl
@[simp] theorem makeBinding_silenceLimit (h : EntryNo) (k : SlotNo) : (makeBinding h k s).silenceLimit = s.silenceLimit := rfl
@[simp] theorem makeBinding_releaseLimit (h : EntryNo) (k : SlotNo) : (makeBinding h k s).releaseLimit = s.releaseLimit := rfl
@[simp] theorem makeBinding_windowLength (h : EntryNo) (k : SlotNo) : (makeBinding h k s).windowLength = s.windowLength := rfl
@[simp] theorem makeBinding_pending (h : EntryNo) (k : SlotNo) : (makeBinding h k s).pending = s.pending := rfl
@[simp] theorem makeBinding_freeDraws (h : EntryNo) (k : SlotNo) : (makeBinding h k s).freeDraws = s.freeDraws := rfl
@[simp] theorem makeBinding_cross (h : EntryNo) (k : SlotNo) (x' : CrossNo) : (makeBinding h k s).cross x' = s.cross x' := rfl
@[simp] theorem makeBinding_code (h : EntryNo) (k : SlotNo) (k' : SlotNo) : (makeBinding h k s).code k' = s.code k' := rfl

@[simp] theorem breakBinding_handRx (h : EntryNo) (k : SlotNo) : (breakBinding h k s).handRx = s.handRx := rfl
@[simp] theorem breakBinding_out (h : EntryNo) (k : SlotNo) : (breakBinding h k s).out = s.out := rfl
@[simp] theorem breakBinding_windows (h : EntryNo) (k : SlotNo) : (breakBinding h k s).windows = s.windows := rfl
@[simp] theorem breakBinding_holding (h : EntryNo) (k : SlotNo) : (breakBinding h k s).holding = s.holding := rfl
@[simp] theorem breakBinding_beacons (h : EntryNo) (k : SlotNo) : (breakBinding h k s).beacons = s.beacons := rfl
@[simp] theorem breakBinding_tolerance (h : EntryNo) (k : SlotNo) : (breakBinding h k s).tolerance = s.tolerance := rfl
@[simp] theorem breakBinding_crossovers (h : EntryNo) (k : SlotNo) : (breakBinding h k s).crossovers = s.crossovers := rfl
@[simp] theorem breakBinding_commands (h : EntryNo) (k : SlotNo) : (breakBinding h k s).commands = s.commands := rfl
@[simp] theorem breakBinding_sectionRx (h : EntryNo) (k : SlotNo) : (breakBinding h k s).sectionRx = s.sectionRx := rfl
@[simp] theorem breakBinding_roundNumber (h : EntryNo) (k : SlotNo) : (breakBinding h k s).roundNumber = s.roundNumber := rfl
@[simp] theorem breakBinding_framePos (h : EntryNo) (k : SlotNo) : (breakBinding h k s).framePos = s.framePos := rfl
@[simp] theorem breakBinding_railFresh (h : EntryNo) (k : SlotNo) : (breakBinding h k s).railFresh = s.railFresh := rfl
@[simp] theorem breakBinding_railLine (h : EntryNo) (k : SlotNo) : (breakBinding h k s).railLine = s.railLine := rfl
@[simp] theorem breakBinding_track (h : EntryNo) (k : SlotNo) : (breakBinding h k s).track = s.track := rfl
@[simp] theorem breakBinding_cap (h : EntryNo) (k : SlotNo) : (breakBinding h k s).cap = s.cap := rfl
@[simp] theorem breakBinding_faultLine (h : EntryNo) (k : SlotNo) : (breakBinding h k s).faultLine = s.faultLine := rfl
@[simp] theorem breakBinding_resetCause (h : EntryNo) (k : SlotNo) : (breakBinding h k s).resetCause = s.resetCause := rfl
@[simp] theorem breakBinding_time (h : EntryNo) (k : SlotNo) : (breakBinding h k s).time = s.time := rfl
@[simp] theorem breakBinding_silenceLimit (h : EntryNo) (k : SlotNo) : (breakBinding h k s).silenceLimit = s.silenceLimit := rfl
@[simp] theorem breakBinding_releaseLimit (h : EntryNo) (k : SlotNo) : (breakBinding h k s).releaseLimit = s.releaseLimit := rfl
@[simp] theorem breakBinding_windowLength (h : EntryNo) (k : SlotNo) : (breakBinding h k s).windowLength = s.windowLength := rfl
@[simp] theorem breakBinding_pending (h : EntryNo) (k : SlotNo) : (breakBinding h k s).pending = s.pending := rfl
@[simp] theorem breakBinding_freeDraws (h : EntryNo) (k : SlotNo) : (breakBinding h k s).freeDraws = s.freeDraws := rfl
@[simp] theorem breakBinding_cross (h : EntryNo) (k : SlotNo) (x' : CrossNo) : (breakBinding h k s).cross x' = s.cross x' := rfl
@[simp] theorem breakBinding_code (h : EntryNo) (k : SlotNo) (k' : SlotNo) : (breakBinding h k s).code k' = s.code k' := rfl

@[simp] theorem putFrame_handRx (p : Fin 12) (f : RailFrame) : (putFrame p f s).handRx = s.handRx := rfl
@[simp] theorem putFrame_out (p : Fin 12) (f : RailFrame) : (putFrame p f s).out = s.out := rfl
@[simp] theorem putFrame_handsets (p : Fin 12) (f : RailFrame) : (putFrame p f s).handsets = s.handsets := rfl
@[simp] theorem putFrame_windows (p : Fin 12) (f : RailFrame) : (putFrame p f s).windows = s.windows := rfl
@[simp] theorem putFrame_slots (p : Fin 12) (f : RailFrame) : (putFrame p f s).slots = s.slots := rfl
@[simp] theorem putFrame_holding (p : Fin 12) (f : RailFrame) : (putFrame p f s).holding = s.holding := rfl
@[simp] theorem putFrame_beacons (p : Fin 12) (f : RailFrame) : (putFrame p f s).beacons = s.beacons := rfl
@[simp] theorem putFrame_tolerance (p : Fin 12) (f : RailFrame) : (putFrame p f s).tolerance = s.tolerance := rfl
@[simp] theorem putFrame_crossovers (p : Fin 12) (f : RailFrame) : (putFrame p f s).crossovers = s.crossovers := rfl
@[simp] theorem putFrame_commands (p : Fin 12) (f : RailFrame) : (putFrame p f s).commands = s.commands := rfl
@[simp] theorem putFrame_sectionRx (p : Fin 12) (f : RailFrame) : (putFrame p f s).sectionRx = s.sectionRx := rfl
@[simp] theorem putFrame_roundNumber (p : Fin 12) (f : RailFrame) : (putFrame p f s).roundNumber = s.roundNumber := rfl
@[simp] theorem putFrame_track (p : Fin 12) (f : RailFrame) : (putFrame p f s).track = s.track := rfl
@[simp] theorem putFrame_cap (p : Fin 12) (f : RailFrame) : (putFrame p f s).cap = s.cap := rfl
@[simp] theorem putFrame_faultLine (p : Fin 12) (f : RailFrame) : (putFrame p f s).faultLine = s.faultLine := rfl
@[simp] theorem putFrame_resetCause (p : Fin 12) (f : RailFrame) : (putFrame p f s).resetCause = s.resetCause := rfl
@[simp] theorem putFrame_time (p : Fin 12) (f : RailFrame) : (putFrame p f s).time = s.time := rfl
@[simp] theorem putFrame_silenceLimit (p : Fin 12) (f : RailFrame) : (putFrame p f s).silenceLimit = s.silenceLimit := rfl
@[simp] theorem putFrame_releaseLimit (p : Fin 12) (f : RailFrame) : (putFrame p f s).releaseLimit = s.releaseLimit := rfl
@[simp] theorem putFrame_windowLength (p : Fin 12) (f : RailFrame) : (putFrame p f s).windowLength = s.windowLength := rfl
@[simp] theorem putFrame_pending (p : Fin 12) (f : RailFrame) : (putFrame p f s).pending = s.pending := rfl
@[simp] theorem putFrame_freeDraws (p : Fin 12) (f : RailFrame) : (putFrame p f s).freeDraws = s.freeDraws := rfl
@[simp] theorem putFrame_entry (p : Fin 12) (f : RailFrame) (h' : EntryNo) : (putFrame p f s).entry h' = s.entry h' := rfl
@[simp] theorem putFrame_slot (p : Fin 12) (f : RailFrame) (k' : SlotNo) : (putFrame p f s).slot k' = s.slot k' := rfl
@[simp] theorem putFrame_cross (p : Fin 12) (f : RailFrame) (x' : CrossNo) : (putFrame p f s).cross x' = s.cross x' := rfl
@[simp] theorem putFrame_code (p : Fin 12) (f : RailFrame) (k' : SlotNo) : (putFrame p f s).code k' = s.code k' := rfl

@[simp] theorem confirmCommand_handRx (x : CrossNo) : (confirmCommand x s).handRx = s.handRx := rfl
@[simp] theorem confirmCommand_out (x : CrossNo) : (confirmCommand x s).out = s.out := rfl
@[simp] theorem confirmCommand_handsets (x : CrossNo) : (confirmCommand x s).handsets = s.handsets := rfl
@[simp] theorem confirmCommand_windows (x : CrossNo) : (confirmCommand x s).windows = s.windows := rfl
@[simp] theorem confirmCommand_slots (x : CrossNo) : (confirmCommand x s).slots = s.slots := rfl
@[simp] theorem confirmCommand_holding (x : CrossNo) : (confirmCommand x s).holding = s.holding := rfl
@[simp] theorem confirmCommand_beacons (x : CrossNo) : (confirmCommand x s).beacons = s.beacons := rfl
@[simp] theorem confirmCommand_tolerance (x : CrossNo) : (confirmCommand x s).tolerance = s.tolerance := rfl
@[simp] theorem confirmCommand_commands (x : CrossNo) : (confirmCommand x s).commands = s.commands := rfl
@[simp] theorem confirmCommand_sectionRx (x : CrossNo) : (confirmCommand x s).sectionRx = s.sectionRx := rfl
@[simp] theorem confirmCommand_roundNumber (x : CrossNo) : (confirmCommand x s).roundNumber = s.roundNumber := rfl
@[simp] theorem confirmCommand_framePos (x : CrossNo) : (confirmCommand x s).framePos = s.framePos := rfl
@[simp] theorem confirmCommand_railFresh (x : CrossNo) : (confirmCommand x s).railFresh = s.railFresh := rfl
@[simp] theorem confirmCommand_railLine (x : CrossNo) : (confirmCommand x s).railLine = s.railLine := rfl
@[simp] theorem confirmCommand_track (x : CrossNo) : (confirmCommand x s).track = s.track := rfl
@[simp] theorem confirmCommand_cap (x : CrossNo) : (confirmCommand x s).cap = s.cap := rfl
@[simp] theorem confirmCommand_faultLine (x : CrossNo) : (confirmCommand x s).faultLine = s.faultLine := rfl
@[simp] theorem confirmCommand_resetCause (x : CrossNo) : (confirmCommand x s).resetCause = s.resetCause := rfl
@[simp] theorem confirmCommand_time (x : CrossNo) : (confirmCommand x s).time = s.time := rfl
@[simp] theorem confirmCommand_silenceLimit (x : CrossNo) : (confirmCommand x s).silenceLimit = s.silenceLimit := rfl
@[simp] theorem confirmCommand_releaseLimit (x : CrossNo) : (confirmCommand x s).releaseLimit = s.releaseLimit := rfl
@[simp] theorem confirmCommand_windowLength (x : CrossNo) : (confirmCommand x s).windowLength = s.windowLength := rfl
@[simp] theorem confirmCommand_pending (x : CrossNo) : (confirmCommand x s).pending = s.pending := rfl
@[simp] theorem confirmCommand_freeDraws (x : CrossNo) : (confirmCommand x s).freeDraws = s.freeDraws := rfl
@[simp] theorem confirmCommand_entry (x : CrossNo) (h' : EntryNo) : (confirmCommand x s).entry h' = s.entry h' := rfl
@[simp] theorem confirmCommand_slot (x : CrossNo) (k' : SlotNo) : (confirmCommand x s).slot k' = s.slot k' := rfl
@[simp] theorem confirmCommand_code (x : CrossNo) (k' : SlotNo) : (confirmCommand x s).code k' = s.code k' := rfl

/-! ### What an update writes -/

theorem pushCommand_commands (d : SectionCommand) : (s.pushCommand d).commands = s.commands ++ [d] := rfl
theorem draw_freeDraws : s.draw.freeDraws = s.freeDraws + 1 := rfl
theorem tick_time : (tick s).time = s.time + 1 := rfl
theorem queueReply_out (r : Reply) : (queueReply r s).out = s.out.reply r := rfl
theorem queueEcho_out (id : RadioId) (b : EchoBody) : (queueEcho id b s).out = s.out.echo id b := rfl
theorem queueNotice_out (b : NoticeBody) : (queueNotice b s).out = s.out.notice b s.time := rfl
theorem endFrame_out : (endFrame s).out = s.out.endFrame := rfl

end Sys2Proof.Machine
end

