-- ==== Sys2Proof/Laws/Outbound.lean ====
section
/-! SUPPORT. The outbound side: every reply, echo and notice a command hands on is one `emit`, which changes the
field `out` alone and moves past every record update. The queue bounds of each output. -/

namespace Sys2Proof.Machine

variable (s : State)

/-! ### What `emit` leaves alone -/

@[simp] theorem emit_handRx (o : List Output) : (emit o s).handRx = s.handRx := rfl
@[simp] theorem emit_handsets (o : List Output) : (emit o s).handsets = s.handsets := rfl
@[simp] theorem emit_windows (o : List Output) : (emit o s).windows = s.windows := rfl
@[simp] theorem emit_slots (o : List Output) : (emit o s).slots = s.slots := rfl
@[simp] theorem emit_holding (o : List Output) : (emit o s).holding = s.holding := rfl
@[simp] theorem emit_beacons (o : List Output) : (emit o s).beacons = s.beacons := rfl
@[simp] theorem emit_tolerance (o : List Output) : (emit o s).tolerance = s.tolerance := rfl
@[simp] theorem emit_crossovers (o : List Output) : (emit o s).crossovers = s.crossovers := rfl
@[simp] theorem emit_commands (o : List Output) : (emit o s).commands = s.commands := rfl
@[simp] theorem emit_sectionRx (o : List Output) : (emit o s).sectionRx = s.sectionRx := rfl
@[simp] theorem emit_roundNumber (o : List Output) : (emit o s).roundNumber = s.roundNumber := rfl
@[simp] theorem emit_framePos (o : List Output) : (emit o s).framePos = s.framePos := rfl
@[simp] theorem emit_railFresh (o : List Output) : (emit o s).railFresh = s.railFresh := rfl
@[simp] theorem emit_railLine (o : List Output) : (emit o s).railLine = s.railLine := rfl
@[simp] theorem emit_track (o : List Output) : (emit o s).track = s.track := rfl
@[simp] theorem emit_cap (o : List Output) : (emit o s).cap = s.cap := rfl
@[simp] theorem emit_faultLine (o : List Output) : (emit o s).faultLine = s.faultLine := rfl
@[simp] theorem emit_resetCause (o : List Output) : (emit o s).resetCause = s.resetCause := rfl
@[simp] theorem emit_time (o : List Output) : (emit o s).time = s.time := rfl
@[simp] theorem emit_silenceLimit (o : List Output) : (emit o s).silenceLimit = s.silenceLimit := rfl
@[simp] theorem emit_releaseLimit (o : List Output) : (emit o s).releaseLimit = s.releaseLimit := rfl
@[simp] theorem emit_windowLength (o : List Output) : (emit o s).windowLength = s.windowLength := rfl
@[simp] theorem emit_pending (o : List Output) : (emit o s).pending = s.pending := rfl
@[simp] theorem emit_freeDraws (o : List Output) : (emit o s).freeDraws = s.freeDraws := rfl
@[simp] theorem emit_entry (o : List Output) (h : EntryNo) : (emit o s).entry h = s.entry h := rfl
@[simp] theorem emit_slot (o : List Output) (k : SlotNo) : (emit o s).slot k = s.slot k := rfl
@[simp] theorem emit_cross (o : List Output) (x : CrossNo) : (emit o s).cross x = s.cross x := rfl
@[simp] theorem emit_code (o : List Output) (k : SlotNo) : (emit o s).code k = s.code k := rfl

/-! ### `emit` past the record updates -/

@[simp] theorem emit_nil : emit [] s = s := rfl

/-- Outputs handed on one list after another are handed on as one list. -/
@[simp] theorem emit_emit (a b : List Output) : emit b (emit a s) = emit (a ++ b) s := by
  simp [emit, List.foldl_append]

@[simp] theorem emit_setEntry (o : List Output) (h : EntryNo) (e : Entry) :
    (emit o s).setEntry h e = emit o (s.setEntry h e) := rfl

@[simp] theorem emit_setSlot (o : List Output) (k : SlotNo) (r : Slot) :
    (emit o s).setSlot k r = emit o (s.setSlot k r) := rfl

@[simp] theorem emit_setCross (o : List Output) (x : CrossNo) (c : Crossover) :
    (emit o s).setCross x c = emit o (s.setCross x c) := rfl

@[simp] theorem emit_setCode (o : List Output) (k : SlotNo) (c : Option Code) :
    (emit o s).setCode k c = emit o (s.setCode k c) := rfl

@[simp] theorem emit_pushCommand (o : List Output) (d : SectionCommand) :
    (emit o s).pushCommand d = emit o (s.pushCommand d) := rfl

@[simp] theorem emit_draw (o : List Output) : (emit o s).draw = emit o s.draw := rfl

@[simp] theorem emit_setWish (o : List Output) (k : SlotNo) (w : Bool) :
    setWish k w (emit o s) = emit o (setWish k w s) := rfl

@[simp] theorem emit_setFailsafe (o : List Output) (k : SlotNo) (w : Bool) :
    setFailsafe k w (emit o s) = emit o (setFailsafe k w s) := rfl

@[simp] theorem emit_setBound (o : List Output) (h : EntryNo) (k : Option SlotNo) :
    setBound h k (emit o s) = emit o (setBound h k s) := rfl

@[simp] theorem emit_makeBinding (o : List Output) (h : EntryNo) (k : SlotNo) :
    makeBinding h k (emit o s) = emit o (makeBinding h k s) := rfl

@[simp] theorem emit_breakBinding (o : List Output) (h : EntryNo) (k : SlotNo) :
    breakBinding h k (emit o s) = emit o (breakBinding h k s) := rfl

theorem emit_breakBindingOf (o : List Output) (h : EntryNo) :
    breakBindingOf h (emit o s) = emit o (breakBindingOf h s) := by
  simp only [breakBindingOf, emit_entry]
  split <;> rfl

/-! ### The queueing operations are `emit` -/

theorem queueReply_eq (r : Reply) : queueReply r s = emit [.reply r] s := rfl

theorem answer_eq (tag code : Byte) (bytes : List Byte) :
    answer tag code bytes s = emit [okReply tag code bytes] s := rfl

theorem refuseWith_eq (tag code : Byte) (status : ReplyStatus) (bytes : List Byte) :
    refuseWith tag code status bytes s = emit [refusal tag code status bytes] s := rfl

theorem refuse_eq (tag code : Byte) (status : ReplyStatus) :
    refuse tag code status s = emit [refusal tag code status []] s := rfl

theorem queueEcho_eq (id : RadioId) (body : EchoBody) :
    queueEcho id body s = emit [.echo id body] s := rfl

theorem queueNotice_eq (body : NoticeBody) : queueNotice body s = emit [.notice body] s := rfl

theorem echoTo_eq (h : EntryNo) (body : EchoBody) :
    echoTo h body s = emit (echoOutput s h body) s := by
  cases he : s.entry h <;> simp only [echoTo, echoOutput, he] <;> rfl

theorem echoOutput_some {h : EntryNo} {e : Enrolled} (he : s.entry h = some e) (body : EchoBody) :
    echoOutput s h body = [.echo e.radioId body] := by
  simp [echoOutput, he]

/-- The echo goes to the entry's radio ID, so only the entry matters. -/
theorem echoOutput_congr {s t : State} {h : EntryNo} (he : t.entry h = s.entry h) (body : EchoBody) :
    echoOutput t h body = echoOutput s h body := by
  simp [echoOutput, he]

@[simp] theorem echoOutput_emit (o : List Output) (h : EntryNo) (body : EchoBody) :
    echoOutput (emit o s) h body = echoOutput s h body := rfl

/-! ### Bounds -/

/-- The bounds of R144, R146 and R147 on an outbound side, and a free transmitter with nothing waiting (R145). -/
abbrev OutboundOk (o : Outbound) : Prop :=
  o.replies.length ≤ 4 ∧ o.echoes.length ≤ 8 ∧ o.notices.length ≤ 32 ∧
  (o.transmitter = .free → o.replies = [] ∧ o.echoes = [] ∧ o.notices = [])

/-- Starting a frame shortens one queue or changes nothing, and leaves no free transmitter with a frame waiting. -/
theorem startNext_ok {o : Outbound} (hr : o.replies.length ≤ 4) (he : o.echoes.length ≤ 8)
    (hn : o.notices.length ≤ 32) : OutboundOk o.startNext := by
  obtain ⟨replies, echoes, notices, overrun, transmitter⟩ := o
  simp only [OutboundOk] at *
  cases transmitter with
  | sending frame parts => simp [Outbound.startNext]; omega
  | free =>
    match replies, echoes, notices with
    | r :: rest, _, _ =>
      cases r with
      | mk tag code status data => cases data <;> simp [Outbound.startNext, Reply.onLine] at * <;> omega
    | [], e :: rest, _ => simp [Outbound.startNext] at *; omega
    | [], [], n :: rest => simp [Outbound.startNext] at *; omega
    | [], [], [] => simp [Outbound.startNext]

/-- A frame's end keeps the bounds. -/
theorem endFrame_ok {o : Outbound} (h : OutboundOk o) : OutboundOk o.endFrame := by
  unfold Outbound.endFrame
  split
  · exact h
  · exact ⟨h.1, h.2.1, h.2.2.1, by simp⟩
  · exact startNext_ok h.1 h.2.1 h.2.2.1

/-- An echo keeps the bounds (R146). -/
theorem echo_ok {o : Outbound} (h : OutboundOk o) (id : RadioId) (body : EchoBody) :
    OutboundOk (o.echo id body) := by
  refine startNext_ok h.1 ?_ h.2.2.1
  have := h.2.1
  simp only [appendEcho]
  split <;> simp <;> omega

/-- A notice keeps the bounds (R147). -/
theorem notice_ok {o : Outbound} (h : OutboundOk o) (body : NoticeBody) (now : Time) :
    OutboundOk (o.notice body now) := by
  unfold Outbound.notice
  split
  · refine startNext_ok h.1 h.2.1 ?_
    simp
    omega
  · exact h

/-- A reply keeps the bounds where the queue has room (R144). -/
theorem reply_ok {o : Outbound} (h : OutboundOk o) (room : o.replies.length < 4) (r : Reply) :
    OutboundOk (o.reply r) := by
  refine startNext_ok ?_ h.2.1 h.2.2.1
  simp
  omega

end Sys2Proof.Machine
end

