-- ==== Sys2Proof/Laws/Bindings.lean ====
section
/-! SUPPORT. What the shared operations on entries, bindings and windows do, each said once (Chapters 1 to 3). -/

namespace Sys2Proof.Machine

variable (s : State)

/-! ### Entries -/

@[simp] theorem withWindow_some_live (e : Enrolled) (silence : Time) (v w : Bool)
    (h : e.phase = .live silence v) :
    Entry.withWindow (some e) w = some { e with phase := .live silence w } := by
  simp [Entry.withWindow, h]

@[simp] theorem withWindow_some_lost (e : Enrolled) (release : Option Time) (w : Bool)
    (h : e.phase = .lost release) : Entry.withWindow (some e) w = some e := by
  simp [Entry.withWindow, h]

@[simp] theorem withWindow_none (w : Bool) : Entry.withWindow none w = none := rfl
@[simp] theorem withBound_none (k : Option SlotNo) : Entry.withBound none k = none := rfl
@[simp] theorem withBound_some (e : Enrolled) (k : Option SlotNo) :
    Entry.withBound (some e) k = some { e with bound := k } := rfl
@[simp] theorem boundSlot_some (e : Enrolled) : Entry.boundSlot (some e) = e.bound := rfl
@[simp] theorem boundSlot_none : Entry.boundSlot none = none := rfl
@[simp] theorem radio_some (e : Enrolled) : Entry.radio (some e) = some e.radioId := rfl
@[simp] theorem radio_none : Entry.radio none = none := rfl

@[simp] theorem withWindow_radio (e : Entry) (w : Bool) : (e.withWindow w).radio = e.radio := by
  rcases e with _ | ⟨id, m, b, _ | _⟩ <;> rfl

@[simp] theorem withWindow_boundSlot (e : Entry) (w : Bool) :
    (e.withWindow w).boundSlot = e.boundSlot := by
  rcases e with _ | ⟨id, m, b, _ | _⟩ <;> rfl

@[simp] theorem withWindow_isLost (e : Entry) (w : Bool) : (e.withWindow w).isLost = e.isLost := by
  rcases e with _ | ⟨id, m, b, _ | _⟩ <;> rfl

@[simp] theorem withWindow_isLive (e : Entry) (w : Bool) : (e.withWindow w).isLive = e.isLive := by
  rcases e with _ | ⟨id, m, b, _ | _⟩ <;> rfl

@[simp] theorem withWindow_window_false (e : Entry) : (e.withWindow false).window = false := by
  rcases e with _ | ⟨id, m, b, _ | _⟩ <;> rfl

/-- A LIVE entry takes the window field it is given. -/
theorem withWindow_window {e : Entry} (live : e.isLive = true) (w : Bool) :
    (e.withWindow w).window = w := by
  rcases e with _ | ⟨id, m, b, _ | _⟩ <;> simp_all [Entry.isLive, Entry.window, Entry.withWindow]

/-- Clearing a field that is no changes nothing. -/
theorem withWindow_of_closed {e : Entry} (h : e.window = false) : e.withWindow false = e := by
  rcases e with _ | ⟨id, m, b, _ | _⟩ <;> simp_all [Entry.window, Entry.withWindow]

@[simp] theorem withBound_radio (e : Entry) (k : Option SlotNo) : (e.withBound k).radio = e.radio := by
  rcases e with _ | e <;> rfl

@[simp] theorem withBound_window (e : Entry) (k : Option SlotNo) : (e.withBound k).window = e.window := by
  rcases e with _ | ⟨id, m, b, _ | _⟩ <;> rfl

@[simp] theorem withBound_isLost (e : Entry) (k : Option SlotNo) : (e.withBound k).isLost = e.isLost := by
  rcases e with _ | ⟨id, m, b, _ | _⟩ <;> rfl

@[simp] theorem withBound_withBound (e : Entry) (j k : Option SlotNo) :
    (e.withBound j).withBound k = e.withBound k := by
  rcases e with _ | e <;> rfl

theorem withWindow_withBound (e : Entry) (w : Bool) (k : Option SlotNo) :
    (e.withBound k).withWindow w = (e.withWindow w).withBound k := by
  rcases e with _ | ⟨id, m, b, _ | _⟩ <;> rfl

/-- An echo is addressed by the entry's radio ID alone. -/
theorem echoOutput_of_radio {s t : State} {h : EntryNo} (he : (t.entry h).radio = (s.entry h).radio)
    (body : EchoBody) : echoOutput t h body = echoOutput s h body := by
  cases a : t.entry h <;> cases b : s.entry h <;> simp_all [echoOutput]

/-! ### Windows -/

/-- A window's closing (R40): the list without it, the field no, the echo, and the notice unless BOUND. -/
theorem closeWindow_eq (h : EntryNo) (reason : CloseReason) :
    closeWindow h reason s = emit
      (echoOutput s h (.windowClosed reason) ++
        if reason = .bound then [] else [.notice (.windowClosed h reason)])
      ({ s with windows := otherWindows h s }.setEntry h ((s.entry h).withWindow false)) := by
  have hr : echoOutput (setWindowField h false { s with windows := otherWindows h s }) h
      (.windowClosed reason) = echoOutput s h (.windowClosed reason) :=
    echoOutput_of_radio (by rw [setWindowField, entry_setEntry_self]; exact withWindow_radio _ _) _
  unfold closeWindow
  simp only [echoTo_eq, queueNotice_eq]
  change (if reason = .bound then emit (echoOutput (setWindowField h false _) h _) _ else _) = _
  split <;> simp only [emit_emit, List.append_nil] <;> rw [← hr] <;> rfl

/-- The closing of a window that R40 gives a notice. -/
theorem closeWindow_noticed {reason : CloseReason} (hb : reason ≠ .bound) (h : EntryNo) :
    closeWindow h reason s = emit (closeOutputs s h reason)
      ({ s with windows := otherWindows h s }.setEntry h ((s.entry h).withWindow false)) := by
  simp [closeWindow_eq, closeOutputs, hb]

/-- A window that the open window field announces is closed, and nothing happens without one. -/
theorem closeIfOpen_eq {reason : CloseReason} (hb : reason ≠ .bound) (h : EntryNo) :
    closeIfOpen h reason s = emit (if (s.entry h).window then closeOutputs s h reason else [])
      ({ s with windows := if (s.entry h).window then otherWindows h s else s.windows }.setEntry h
        ((s.entry h).withWindow false)) := by
  unfold closeIfOpen
  split
  · rw [closeWindow_noticed s hb]
  · rename_i hw
    have hw : (s.entry h).window = false := by simpa using hw
    rw [withWindow_of_closed hw]
    exact (setEntry_entry s h).symm

/-- A window opens with room in the list (R38). -/
theorem openWindow_room {h : EntryNo} {e : Enrolled} (he : s.entry h = some e)
    (room : s.windows.length < 4) :
    openWindow h s = emit [.echo e.radioId (.windowOpen s.windowLength), .notice (.windowOpen h)]
      ({ s with windows := s.windows ++ [Window.mk h (s.after (1000 * s.windowLength))] }.setEntry h
        ((s.entry h).withWindow true)) := by
  have hr : ∀ t : State, t.entry h = (s.entry h).withWindow true → ∀ body,
      echoOutput t h body = [.echo e.radioId body] := by
    intro t ht body
    rw [echoOutput_of_radio (s := s) (by simp [ht]), echoOutput_some s he]
  simp only [openWindow, if_pos room, echoTo_eq, queueNotice_eq, emit_emit]
  rw [hr _ (by rw [setWindowField, entry_setEntry_self]; rfl)]
  rfl

/-- An open request is refused with the list full (R38). -/
theorem openWindow_full {h : EntryNo} {e : Enrolled} (he : s.entry h = some e)
    (full : 4 ≤ s.windows.length) : openWindow h s = emit [.echo e.radioId .windowRefused] s := by
  simp [openWindow, Nat.not_lt.mpr full, echoTo_eq, echoOutput_some s he]

/-! ### Bindings -/

/-- A binding made: the slot's source, wish and failsafe flag and the entry's bound slot (R27). -/
theorem makeBinding_eq (h : EntryNo) (k : SlotNo) :
    makeBinding h k s = (s.setSlot k { s.slot k with
      source := .handset h, wish := false, failsafe := (s.entry h).isLost }).setEntry h
        ((s.entry h).withBound (some k)) := rfl

/-- A binding broken: the slot is NONE, disarmed and out of failsafe, the entry unbound (R28). -/
theorem breakBinding_eq (h : EntryNo) (k : SlotNo) :
    breakBinding h k s = (s.setSlot k (s.slot k).freed).setEntry h ((s.entry h).withBound none) := rfl

end Sys2Proof.Machine
end

