-- ==== Sys2Proof/Laws/Lookups.lean ====
section
/-! SUPPORT. What the lookups answer: index arguments, the lowest record with a property, the entry of a radio ID,
the slot of a measurement; and when a request is taken. -/

namespace Sys2Proof.Machine

/-! ### The lowest index with a property -/

/-- The first index that satisfies a test is the one found. -/
theorem find_finRange_some {n : Nat} {p : Fin n → Bool} {k : Fin n} (hk : p k = true)
    (least : ∀ j, j < k → p j = false) : (List.finRange n).find? p = some k := by
  rw [List.find?_eq_some_iff_getElem]
  refine ⟨hk, k.val, by simp, by simp, fun j hj => ?_⟩
  simpa using least ⟨j, by omega⟩ hj

/-- No index is found exactly when every one fails the test. -/
theorem find_finRange_none {n : Nat} {p : Fin n → Bool} :
    (List.finRange n).find? p = none ↔ ∀ k, p k = false := by
  simp [List.find?_eq_none]

/-- The index found satisfies the test. -/
theorem find_finRange_test {n : Nat} {p : Fin n → Bool} {k : Fin n}
    (h : (List.finRange n).find? p = some k) : p k = true := List.find?_some h

/-! ### Index arguments (R151 ③) -/

theorem byte_toNat {n : Nat} (h : n < 256) : (byte n).toNat = n := by
  simp [byte, Nat.mod_eq_of_lt h]

@[simp] theorem entryArg_byte (h : EntryNo) : entryArg (byte h.val) = some h := by
  revert h; decide

@[simp] theorem slotArg_byte (k : SlotNo) : slotArg (byte (k.val + 1)) = some k := by
  revert k; decide

@[simp] theorem crossArg_byte (x : CrossNo) : crossArg (byte x.val) = some x := by
  revert x; decide

theorem entryArg_none {b : Byte} (h : 12 ≤ b.toNat) : entryArg b = none := by
  simp only [entryArg]
  rw [dif_neg (by omega)]

theorem slotArg_none {b : Byte} (h : b.toNat = 0 ∨ 9 ≤ b.toNat) : slotArg b = none := by
  simp only [slotArg]
  rw [dif_neg (by omega)]

theorem crossArg_none {b : Byte} (h : 16 ≤ b.toNat) : crossArg b = none := by
  simp only [crossArg]
  rw [dif_neg (by omega)]

/-! ### Taking a request (R144) -/

/-- With room for its reply a request is taken. -/
theorem onRequest_room {s : State} (room : s.out.replies.length < 4) (take : State → State) :
    onRequest take s = take s.handTaken := if_pos room

/-- With the reply queue full it is discarded. -/
theorem onRequest_full {s : State} (full : 4 ≤ s.out.replies.length) (take : State → State) :
    onRequest take s = s.handTaken := if_neg (Nat.not_lt.mpr full)

/-! ### Deadlines -/

theorem reached_iff {now deadline : Time} :
    reached now deadline = true ↔ (now - deadline).toNat < 2 ^ 31 := by
  simp [reached]

theorem not_reached_iff {now deadline : Time} :
    reached now deadline = false ↔ 2 ^ 31 ≤ (now - deadline).toNat := by
  simp [reached]

/-! ### Handset entries (R3, R4) -/

/-- The entry that holds a radio ID is found, since no other one holds it. -/
theorem findEntry_some {s : State} {h : EntryNo} {e : Enrolled} (inv : RadioInv s)
    (he : s.entry h = some e) : s.findEntry e.radioId = some h := by
  refine find_finRange_some (by simp [he]) fun j hj => ?_
  have hne : j ≠ h := Fin.ne_of_lt hj
  rcases inv.1 j h hne with hj' | hj'
  · cases hs : s.entry j with
    | none => rfl
    | some e' => simp [hs, Entry.radio] at hj'
  · cases hs : s.entry j with
    | none => rfl
    | some e' => simpa [hs, he, Entry.radio] using hj'

/-- A radio ID that no entry holds is unknown. -/
theorem findEntry_none {s : State} {id : RadioId} (unknown : ∀ g, (s.entry g).radio ≠ some id) :
    s.findEntry id = none := by
  refine find_finRange_none.mpr fun g => ?_
  have := unknown g
  cases hs : s.entry g with
  | none => rfl
  | some e => simpa [hs, Entry.radio] using this

/-- The lowest-numbered FREE entry is the one used. -/
theorem lowestFree_some {s : State} {h : EntryNo} (free : s.entry h = none)
    (least : ∀ g, g < h → s.entry g ≠ none) : s.lowestFree = some h :=
  find_finRange_some (by simp [free]) fun g hg => by
    simpa [Option.isSome_iff_ne_none] using least g hg

theorem lowestFree_none {s : State} (taken : ∀ g, s.entry g ≠ none) : s.lowestFree = none :=
  find_finRange_none.mpr fun g => by simpa [Option.isSome_iff_ne_none] using taken g

/-! ### Classification (R54, R62) -/

theorem absDiff_comm (a b : Nat) : absDiff a b = absDiff b a := by
  simp only [absDiff]; omega

/-- The distance between two codes is no more than the sum of the distances through a measurement. -/
theorem distance_triangle (a m b : Code) : distance a b ≤ distance m a + distance m b := by
  simp only [distance, absDiff]; omega

/-- A measurement within the tolerance of a code is classified to it: no other code is as near. -/
theorem classify_some {s : State} {m c : Code} {k : SlotNo} (inv : BeaconInv s)
    (hc : s.code k = some c) (near : distance m c ≤ s.tolerance) : classify s m = some k := by
  refine find_finRange_some (by simp [hc, near]) fun j hj => ?_
  cases hd : s.code j with
  | none => rfl
  | some d =>
    have far := inv.2.2 j k (Fin.ne_of_lt hj) d (by simp [hd]) c (by simp [hc])
    have := distance_triangle d m c
    simp only [decide_eq_false_iff_not]
    omega

/-- A measurement outside the tolerance of every code is UNKNOWN. -/
theorem classify_none {s : State} {m : Code}
    (far : ∀ k c, s.code k = some c → s.tolerance < distance m c) : classify s m = none :=
  find_finRange_none.mpr fun k => by
    cases hc : s.code k with
    | none => rfl
    | some c => simpa using far k c hc

/-- What `Measures` says of a measurement is its classification. -/
theorem classify_of_measures {s : State} {p w : Byte} {slot : Option SlotNo} (inv : BeaconInv s)
    (h : Measures s p w slot) : classify s ⟨p.toNat, w.toNat⟩ = slot := by
  cases slot with
  | none => exact classify_none h
  | some k =>
    obtain ⟨c, hc, near⟩ := h
    exact classify_some inv hc near

/-- A sighting that does nothing to pairing leaves the Pairing Unit's state as it was. -/
theorem pairSighting_of_noPairing {s : State} {slot : Option SlotNo} (h : NoPairing s slot) :
    pairSighting slot s = s := by
  cases slot with
  | none => cases hw : s.windows <;> simp [pairSighting]
  | some k =>
    rcases h k rfl with hs | hw
    · cases hw : s.windows <;> simp [pairSighting, eligible, hs, hw]
    · simp [pairSighting, hw]

end Sys2Proof.Machine
end

