-- ==== Sys2Proof/Laws/Zones.lean ====
section
/-! SUPPORT. What the shared operations of the crossover record do: a RETURN decided, room given, FAULT entered, a
passage completed, the emptied-queue rule, the new entry; and the sighting that a crossover takes alone. -/

namespace Sys2Proof.Machine

variable (s : State)

/-! ### RETURN and room in the command queue (R96, R102) -/

theorem decideReturn_room (x : CrossNo) (room : s.commands.length < 8) :
    decideReturn x s =
      ({ s with commands := s.commands ++
          [(⟨x, .returning, (s.cross x).config.pulse⟩ : SectionCommand)] }.setCross x
        { s.cross x with state := .returning, status := .queued .returning }) := if_pos room

theorem decideReturn_full (x : CrossNo) (full : 8 ≤ s.commands.length) :
    decideReturn x s =
      s.setCross x { s.cross x with state := .returning, status := .owed (s.cross x).config.pulse } :=
  if_neg (Nat.not_lt.mpr full)

theorem owedPulse_eq_some {c : CommandStatus} {pulse : Nat} :
    c.owedPulse = some pulse ↔ c = .owed pulse := by
  cases c <;> simp [CommandStatus.owedPulse]

theorem owedPulse_none {c : CommandStatus} (h : ∀ pulse, c ≠ .owed pulse) : c.owedPulse = none := by
  cases c with
  | owed pulse => exact absurd rfl (h pulse)
  | none => rfl
  | queued kind => rfl
  | sent kind deadline => rfl

/-- With no RETURN OWED the room is given to none. -/
theorem serveOwed_none (h : ∀ y pulse, (s.cross y).status ≠ .owed pulse) : serveOwed s = s := by
  have : lowestOwed s = none := find_finRange_none.mpr fun y => by simp [owedPulse_none (h y)]
  simp [serveOwed, this]

/-- The lowest-numbered OWED RETURN is QUEUED at the tail with the pulse it was decided with. -/
theorem serveOwed_some {y : CrossNo} {pulse : Nat} (h : (s.cross y).status = .owed pulse)
    (least : ∀ z, z < y → ∀ q, (s.cross z).status ≠ .owed q) :
    serveOwed s = ({ s with commands := s.commands ++ [(⟨y, .returning, pulse⟩ : SectionCommand)] }.setCross y
      { s.cross y with status := .queued .returning }) := by
  have found : lowestOwed s = some y :=
    find_finRange_some (by simp [h, CommandStatus.owedPulse]) fun z hz => by
      simp [owedPulse_none (least z hz)]
  simp [serveOwed, found, h, CommandStatus.owedPulse, State.pushCommand]

/-! ### FAULT (R99) -/

/-- FAULT of a crossover whose command does not stand in the queue. -/
theorem enterFault_unqueued (x : CrossNo) (cause : FaultCause)
    (h : ∀ kind, (s.cross x).status ≠ .queued kind) :
    enterFault x cause s = emit [.notice (.crossoverFault x cause)]
      (s.setCross x { s.cross x with state := .fault, status := .none }) := by
  have : (s.cross x).status.isQueued = false := by
    cases hs : (s.cross x).status with
    | queued kind => exact absurd hs (h kind)
    | none => rfl
    | owed pulse => rfl
    | sent kind deadline => rfl
  simp [enterFault, this, queueNotice_eq]

/-! ### Passages (R81, R86, R88) -/

/-- A passage is one record, at most one notice, and a CHANGED outcome at its slot. -/
theorem completePassage_eq (x : CrossNo) (e : ZoneEntry) (rest : List ZoneEntry) (outcome : PassageOutcome)
    (exit : Option (Time × ExitSensor)) :
    completePassage x e rest outcome exit s =
      emit (if outcome = .stayed then [] else [.notice (.lane x e.slot outcome)])
        (let t := s.setCross x ((s.cross x).passed rest (e.record outcome exit))
          if outcome = .changed then handChanged e.slot t else t) := by
  simp only [completePassage, queueNotice_eq]
  split <;> rfl

/-- An approach's decision of UNVERIFIED or LOST_IN_ZONE touches no slot. -/
theorem completePassage_unchanged (x : CrossNo) (e : ZoneEntry) (rest : List ZoneEntry)
    {outcome : PassageOutcome} (exit : Option (Time × ExitSensor)) (hc : outcome ≠ .changed)
    (hs : outcome ≠ .stayed) :
    completePassage x e rest outcome exit s = emit [.notice (.lane x e.slot outcome)]
      (s.setCross x ((s.cross x).passed rest (e.record outcome exit))) := by
  simp [completePassage_eq, hc, hs]

/-- The entry of a classified slot stands where the queue says, if no earlier one is of that slot. -/
theorem find_slot {zone pre post : List ZoneEntry} {e : ZoneEntry} {k : SlotNo}
    (hz : zone = pre ++ e :: post) (he : e.slot = some k) (hp : NotInZone pre (some k)) :
    zone.find? (fun e => e.slot == some k) = some e ∧
      zone.eraseP (fun e => e.slot == some k) = pre ++ post := by
  have hpre : ∀ a ∈ pre, ¬ (a.slot == some k) = true := fun a ha => by simpa using hp k rfl a ha
  subst hz
  refine ⟨?_, ?_⟩
  · rw [List.find?_append, List.find?_eq_none.mpr hpre]
    simp [he]
  · rw [List.eraseP_append_right _ hpre, List.eraseP_cons_of_pos (by simp [he])]

/-- No entry of the slot is found in a queue that holds none. -/
theorem find_slot_none {zone : List ZoneEntry} {k : SlotNo} (h : NotInZone zone (some k)) :
    zone.find? (fun e => e.slot == some k) = none :=
  List.find?_eq_none.mpr fun a ha => by simpa using h k rfl a ha

/-! ### The emptied-queue rule (R85, R95, R105, R106) -/

/-- A crossover that becomes OPEN and holds a staged configuration applies it (R85, R97, R105, R106). -/
theorem becomeOpen_staged (x : CrossNo) {g : CrossConfig} (hg : (s.cross x).staged = some g) :
    becomeOpen x s = s.setCross x { s.cross x with
      config := g, staged := none, state := if g.enabled then .opened else .disabled
      guardRunning := decide ((s.time - (s.cross x).settled).toNat < g.dead) } := by
  have hd : (!deadTimePassed s.time (s.cross x).settled g.dead) =
      decide ((s.time - (s.cross x).settled).toNat < g.dead) := by
    simp only [deadTimePassed, ← decide_not, Nat.not_le]
  cases he : g.enabled <;> simp [becomeOpen, hg, applyConfig, Crossover.withConfig, he, hd]

/-- One that holds none is OPEN. -/
theorem becomeOpen_plain (x : CrossNo) (h : (s.cross x).staged = none) :
    becomeOpen x s = s.setCross x { s.cross x with state := .opened } := by
  simp [becomeOpen, h]

/-- A crossover that becomes HOLDING with its guard running waits there; with the guard elapsed its RETURN is decided
at once (R95). -/
theorem becomeHolding_eq (x : CrossNo) :
    becomeHolding x s = if (s.cross x).guardRunning
      then s.setCross x { s.cross x with state := .holding } else decideReturn x s := by
  cases hg : (s.cross x).guardRunning
  · simp only [becomeHolding, hg, decideReturn, State.pushCommand]
    split <;> simp_all [State.setCross, State.cross]
  · simp [becomeHolding, hg]

theorem emptiedQueue_passing (x : CrossNo) (h : (s.cross x).state = .passing) :
    emptiedQueue x s = becomeOpen x s := by simp [emptiedQueue, h]

theorem emptiedQueue_diverted (x : CrossNo) (h : (s.cross x).state = .diverted) :
    emptiedQueue x s = becomeHolding x s := by simp [emptiedQueue, h]

/-- THROWING and RETURNING stay (R85). -/
theorem emptiedQueue_stays (x : CrossNo) (h : (s.cross x).state = .throwing ∨ (s.cross x).state = .returning) :
    emptiedQueue x s = s := by rcases h with h | h <;> simp [emptiedQueue, h]

/-- FAULT stays unless a disable waits (R85, R106). -/
theorem emptiedQueue_fault (x : CrossNo) (h : (s.cross x).state = .fault) :
    emptiedQueue x s = s.setCross x { s.cross x with
      state := if (s.cross x).config.enabled then .fault else .disabled } := by
  cases he : (s.cross x).config.enabled
  · simp [emptiedQueue, h, he]
  · have : { s.cross x with state := .fault } = s.cross x := by rw [← h]
    simp [emptiedQueue, h, he, this]

theorem emit_decideReturn (o : List Output) (x : CrossNo) :
    decideReturn x (emit o s) = emit o (decideReturn x s) := by
  simp only [decideReturn, emit_cross, emit_commands, emit_pushCommand, emit_setCross]
  exact (apply_ite (emit o) _ _ _).symm

/-- The emptied-queue rule hands nothing on, so it may be taken before or after the outputs of the removal. -/
theorem emit_emptiedQueue (o : List Output) (x : CrossNo) :
    emptiedQueue x (emit o s) = emit o (emptiedQueue x s) := by
  cases hs : (s.cross x).state with
  | passing =>
    rw [emptiedQueue_passing _ _ (by simpa using hs), emptiedQueue_passing _ _ hs]
    cases hg : (s.cross x).staged with
    | none => rw [becomeOpen_plain _ _ (by simpa using hg), becomeOpen_plain _ _ hg]; rfl
    | some g => rw [becomeOpen_staged _ _ (by simpa using hg), becomeOpen_staged _ _ hg]; rfl
  | diverted =>
    rw [emptiedQueue_diverted _ _ (by simpa using hs), emptiedQueue_diverted _ _ hs, becomeHolding_eq,
      becomeHolding_eq, emit_decideReturn]
    simp only [emit_cross, emit_setCross]
    exact (apply_ite (emit o) _ _ _).symm
  | fault => rw [emptiedQueue_fault _ _ (by simpa using hs), emptiedQueue_fault _ _ hs]; rfl
  | disabled | opened | throwing | holding | returning | dark => simp [emptiedQueue, hs]

/-! ### The new entry (R72 ③, R74 to R76) -/

/-- What an approach decides at a crossover: Table 5-4 by its state, the room in the command queue and the wish. -/
def approachDecided (x : CrossNo) (slot : Option SlotNo) (s : State) : Decision × CrossState :=
  approachDecision (s.cross x) (decide (8 ≤ s.commands.length)) (approachWished slot s)

/-- The crossover with the new entry at the tail, decided. -/
def entered (x : CrossNo) (slot : Option SlotNo) (s : State) : Crossover :=
  { s.cross x with
    zone := (s.cross x).zone ++ [⟨slot, approachWished slot s, (approachDecided x slot s).1, s.time,
      s.after (s.cross x).config.clear⟩]
    state := (approachDecided x slot s).2 }

/-- An OPEN crossover that honours the approach queues a THROW with the entry (R74). -/
theorem appendEntry_throw (x : CrossNo) (slot : Option SlotNo)
    (h : (s.cross x).state = .opened ∧ (approachDecided x slot s).2 = .throwing) :
    appendEntry x slot s = ({ s with commands := s.commands ++
        [(⟨x, .throwing, (s.cross x).config.pulse⟩ : SectionCommand)] }.setCross x
      { entered x slot s with status := .queued .throwing }) := by
  have : appendEntry x slot s = decideThrow x (s.setCross x (entered x slot s)) := if_pos h
  rw [this]
  simp [decideThrow, State.pushCommand, State.setCross, State.cross, entered, h.2]

/-- Everywhere else the entry alone is made (R74 to R76). -/
theorem appendEntry_plain (x : CrossNo) (slot : Option SlotNo)
    (h : ¬((s.cross x).state = .opened ∧ (approachDecided x slot s).2 = .throwing)) :
    appendEntry x slot s = s.setCross x (entered x slot s) := if_neg h

/-- The new entry hands nothing on. -/
theorem emit_appendEntry (o : List Output) (x : CrossNo) (slot : Option SlotNo) :
    appendEntry x slot (emit o s) = emit o (appendEntry x slot s) := by
  by_cases h : (s.cross x).state = .opened ∧ (approachDecided x slot s).2 = .throwing
  · rw [appendEntry_throw s x slot h]; exact appendEntry_throw (emit o s) x slot h
  · rw [appendEntry_plain s x slot h]; exact appendEntry_plain (emit o s) x slot h

/-! ### Sightings at one crossover (R61 to R65) -/

/-- A sighting that is not malformed and does nothing to pairing is taken by the crossover alone. -/
theorem sighting_of_noPairing {x : CrossNo} {b p w : Byte} {sensor : Sensor} {slot : Option SlotNo}
    (hb : sensorArg b = some sensor) (good : GoodMeasurement p w)
    (hc : classify s ⟨p.toNat, w.toNat⟩ = slot) (quiet : NoPairing s slot) :
    exec (.sighting x b p w) s = .next (crossSighting x sensor slot s.reportTaken) := by
  have hp : ¬ (p = 0 ∨ p.toNat < w.toNat) := by
    obtain ⟨h1, h2⟩ := good
    rintro (rfl | h)
    · simp at h1
    · omega
  have hw : willPair slot s.reportTaken = false := by
    cases slot with
    | none => rfl
    | some k =>
      have hs : s.reportTaken.slot k = s.slot k := rfl
      rcases quiet k rfl with h | h <;> simp [willPair, eligible, hs, h]
  have hq : pairSighting slot s.reportTaken = s.reportTaken := pairSighting_of_noPairing quiet
  have hc' : classify s.reportTaken ⟨p.toNat, w.toNat⟩ = slot := hc
  simp only [exec, execSighting, takeSighting, hb, if_neg hp, hc', handSighting, hw, hq, Bool.false_and,
    Bool.false_eq_true, if_false]

end Sys2Proof.Machine
end

