-- ==== Sys2Proof/Tests/Slice0.lean ====
section
/-! SUPPORT. Tests on small states. Expected values come from the spec's tables and worked sequences (named at
each test). Each statement with hypotheses has a witness: a state and operands that meet them together, clause by
clause, at the ends of their ranges. -/

namespace Sys2Proof.Tests

open Sys2Proof.Machine

/-! ### Helpers -/

/-- The state a command leaves. -/
def after (c : Instr) (s : State) : State :=
  match exec c s with
  | .next t => t
  | .fault _ => s
  | .refused _ => s

/-- The reset state at another TIME, with nothing on the hand link. -/
def at_ (ms : Nat) : State :=
  { State.reset with time := BitVec.ofNat 32 ms, out := { State.reset.out with transmitter := .free } }

/-- The reply on the line. -/
def sentReply (s : State) : Option (ReplyStatus × List Byte) :=
  match s.out.transmitter with
  | .sending (.reply _ _ status bytes) _ => some (status, bytes)
  | .sending _ _ => none
  | .free => none

/-- An unbound LIVE entry. -/
def liveEntry (id : RadioId) (silence : Time) (window : Bool) : Enrolled :=
  { radioId := id, sample := { trigger := 0, lc := false, pair := false, seq := 3 }, bound := none
    phase := .live silence window }

/-- The default slot record with another source. -/
def slotOf (source : Source) : Slot := { State.reset.slot 0 with source := source }

/-- An enabled crossover record with the default limits, settled at 10000. -/
def crossOf (state : CrossState) (status : CommandStatus) (zone : List ZoneEntry) : Crossover :=
  { State.reset.cross 0 with
    config := { enabled := true, pulse := 20, dead := 30, confirm := 60, clear := 1500 }
    state := state, status := status, zone := zone, settled := 10000 }

/-- A zone entry that entered at `entered` under the default clear limit. -/
def zoneOf (slot : Option SlotNo) (decision : Decision) (entered : Time) : ZoneEntry :=
  { slot := slot, wished := decision != .none, decision := decision, entryTime := entered
    clearDeadline := entered + 1500 }

/-- Table 4-4 after step ④: the codes of slots 3, 4 and 5, tolerance 10. -/
def coded (ms : Nat) : State :=
  (((at_ ms).setCode 2 (some ⟨120, 40⟩)).setCode 3 (some ⟨140, 52⟩)).setCode 4 (some ⟨255, 1⟩)

/-! ### Well-formedness (smoke) -/

theorem test_wf_payload_too_long : WellFormed (.sample (List.replicate 25 0)) = false := by decide
theorem test_wf_args_too_long : WellFormed (.bind 0 (List.replicate 23 0)) = false := by decide
theorem test_wf_known_code : WellFormed (.unknownRequest 0 0x20 []) = false := by decide
theorem test_wf_no_bytes_hand : WellFormed (.handLinkFrameDiscard []) = false := by decide
theorem test_wf_no_bytes_section : WellFormed (.sectionFrameDiscard []) = false := by decide
theorem test_wf_bind : WellFormed (.bind 0 [4, 2]) = true := by decide

/-- No row of the command table gives bits, so no word spells a command. -/
theorem test_no_word_spells_a_command : decodeTableWord 8 0x20 = none := by decide

/-! ### Handsets (1.11) -/

/-- 1.11(1): 0x4A17 with PAIR set, sequence 3. -/
def pairSample : Instr := .sample [0x4A, 0x17, 0, 0x32]

theorem test_enrol_deadline :
    (after pairSample (at_ 20000)).entry 0 = some
      { radioId := 0x4A17, sample := { trigger := 0, lc := false, pair := true, seq := 3 }
        bound := none, phase := .live 20300 true } := by decide

theorem test_enrol_window :
    (after pairSample (at_ 20000)).windows = [{ entry := 0, expiry := 30000 }] := by decide

/-- Table 12-2 note 1: the frame of a sample from 0x4A17. -/
theorem test_sample_frame :
    handFrame 0x10 [0x4A, 0x17, 0xB4, 0xC1] = [0xC3, 0x10, 0x04, 0x4A, 0x17, 0xB4, 0xC1, 0x16] := by
  decide

/-- 1.11(3) before 30300: entry 2 drives slot 5 and asks for a change. -/
def pillar (phase : Phase) (failsafe : Bool) (ms : Nat) : State :=
  ((at_ ms).setEntry 2 (some
    { radioId := 0x4A17, sample := { trigger := 150, lc := false, pair := false, seq := 7 }
      bound := some 4, phase := phase })).setSlot 4
    { slotOf (.handset 2) with wish := true, failsafe := failsafe }

theorem test_silence_makes_lost :
    ((after (.silenceExpiry 2) (pillar (.live 30300 false) false 30300)).entry 2).map (·.phase) =
      some (.lost (some 150300)) := by decide

theorem test_silence_sets_failsafe_and_keeps_a_single_wish :
    (after (.silenceExpiry 2) (pillar (.live 30300 false) false 30300)).slot 4 =
      { slotOf (.handset 2) with wish := true, failsafe := true } := by decide

/-- 1.11(3) at 30450: the repeat of the last transmission, from a LOST entry. -/
theorem test_return_from_lost :
    ((after (.sample [0x4A, 0x17, 150, 0x70]) (pillar (.lost (some 150300)) true 30450)).entry 2).map
      (·.phase) = some (.live 30750 false) := by decide

theorem test_release_frees_the_slot :
    (after (.releaseExpiry 2) (pillar (.lost (some 151300)) true 151300)).slot 4 = slotOf .none := by
  decide

theorem test_release_not_reached :
    (after (.releaseExpiry 2) (pillar (.lost (some 151300)) true 151299)).entry 2 ≠ none := by decide

/-! ### Slots and profiles (2.10, 2.11) -/

theorem test_profile_first_clamps_the_gain :
    (after (.profileFirst 1 [6, 0, 0x07, 0xD0, 0]) (at_ 0)).holding.gain = 1023 := by decide

theorem test_profile_second_takes_the_buffer :
    ((after (.profileSecond 1 [7, 70, 3, 0, 10, 2]) { at_ 0 with holding := ⟨0, 1023, .linear⟩ }).slot
      6).pendingProfile = some ⟨0, 1023, .linear, 63, 3, 1, 10, .hold⟩ := by decide

theorem test_set_pace : (after (.setPace 1 [4, 30]) (at_ 0)).slot 3 = slotOf (.pace 30) := by decide

theorem test_wish_arms_a_pace_slot :
    ((after (.wish 1 [4, 1]) ((at_ 0).setSlot 3 (slotOf (.pace 30)))).slot 3).wish = true := by decide

theorem test_bind_of_a_pace_slot_is_refused :
    sentReply (after (.bind 1 [0, 4]) (((at_ 0).setEntry 0 (some (liveEntry 0x1100 300 false))).setSlot 3
      (slotOf (.pace 30)))) = some (.slotPace, []) := by decide

theorem test_unbind_of_a_pace_slot :
    (after (.unbind 1 [4]) ((at_ 0).setSlot 3 { slotOf (.pace 30) with wish := true })).slot 3 =
      slotOf .none := by decide

theorem test_forget : (after (.forget 1 [2]) (pillar (.lost none) true 40000)).entry 2 = none := by
  decide

/-! ### Pairing (3.11) -/

/-- 3.11(6): the windows of entries 4 and 5. -/
def twoWindows (ms : Nat) : State :=
  { ((at_ ms).setEntry 4 (some (liveEntry 0x2200 60500 true))).setEntry 5
      (some (liveEntry 0x3300 60500 true)) with
    windows := [⟨4, 60400⟩, ⟨5, 64000⟩], beacons := (coded 0).beacons }

theorem test_window_expiry : (after (.windowExpiry 4) (twoWindows 60400)).windows = [⟨5, 64000⟩] := by
  decide

theorem test_sighting_binds_the_head_window :
    ((after (.sighting 11 2 142 52) (twoWindows 60399)).slot 3).source = .handset 4 := by decide

/-- 3.11(7) at 62500: BIND(4, 2). -/
def beforeBind : State :=
  { (((at_ 62500).setEntry 4 (some (liveEntry 0x2200 62700 true))).setEntry 5
      (some { liveEntry 0x3300 62700 false with bound := some 1 })).setSlot 1 (slotOf (.handset 5)) with
    windows := [⟨4, 71000⟩] }

theorem test_bind_takes_the_slot : (after (.bind 1 [4, 2]) beforeBind).slot 1 = slotOf (.handset 4) := by
  decide

/-- Table 3-3: the echoes in order, behind the one that is on the line. -/
theorem test_bind_echoes :
    (after (.bind 1 [4, 2]) beforeBind).out.echoes =
      [⟨0x3300, .released⟩, ⟨0x2200, .bound 1⟩] := by decide

/-- 3.11(7): 1000 ms before the expiry, as READ-WINDOWS lists it (Table 12-9, R51). -/
theorem test_read_windows :
    sentReply (after (.readWindows 1 []) { beforeBind with time := 70000 }) =
      some (.ok, [1, 4, 0x22, 0x00, 0x03, 0xE8]) := by decide

/-! ### Beacon codes (Tables 4-4 and 4-5) -/

theorem test_beacon_clamps :
    sentReply (after (.beacon 1 [5, 0x01, 0x2C, 0, 0]) (at_ 0)) = some (.ok, [255, 1]) := by decide

theorem test_beacon_clash :
    sentReply (after (.beacon 1 [5, 0, 130, 0, 48]) (coded 0)) = some (.codeClash, [3]) := by decide

theorem test_tolerance_clash :
    sentReply (after (.tolerance 1 [20]) (coded 0)) = some (.codeClash, [3, 4]) := by decide

theorem test_tolerance_taken : (after (.tolerance 1 [15]) (coded 0)).tolerance = 15 := by decide

theorem test_classified_b : classify { coded 0 with tolerance := 15 } ⟨131, 47⟩ = some 3 := by decide

theorem test_classified_f : classify { coded 0 with tolerance := 15 } ⟨200, 100⟩ = none := by decide

theorem test_beacon_clear_makes_unknown :
    classify (after (.beaconClear 1 [5]) (coded 0)) ⟨255, 3⟩ = none := by decide

/-! ### Crossovers (5.10, 6.10, 6.11) -/

/-- 5.10(1): crossover 6 in a state, with slot 2's wish armed and every code of 11.8 loaded. -/
def section6 (ms : Nat) (c : Crossover) : State :=
  { ((((at_ ms).setCode 0 (some ⟨40, 12⟩)).setCode 1 (some ⟨80, 30⟩)).setSlot 1
      { slotOf (.pace 20) with wish := true }).setCross 6 c with track := .run }

/-- Table 5-8 at 20000. -/
theorem test_approach_is_honored :
    (after (.sighting 6 0 80 30) (section6 20000 (crossOf .opened .none []))).commands =
      [⟨6, .throwing, 20⟩] := by decide

/-- Table 5-8 at 20040. -/
theorem test_position_confirms :
    ((after (.position 6 .divert) (section6 20040 (crossOf .throwing (.sent .throwing 20064)
      [zoneOf (some 1) .honored 20000]))).cross 6).state = .diverted := by decide

/-- Table 5-8 at 20600: CHANGED under SINGLE disarms the wish. -/
theorem test_changed_disarms :
    ((after (.sighting 6 2 80 30) (section6 20600 (crossOf .diverted .none
      [zoneOf (some 1) .honored 20000, zoneOf none .none 20150]))).slot 1).wish = false := by decide

/-- Table 5-9 at 22750. -/
theorem test_clear_deadline_opens :
    ((after (.clearDeadlineExpiry 6 0) (section6 22750 (crossOf .passing .none
      [zoneOf none .none 21250]))).cross 6).state = .opened := by decide

/-- R95: HOLDING, settled at 10000 with a dead time of 30. -/
theorem test_guard_elapse_returns :
    (after (.guardElapse 6) (section6 10030 { crossOf .holding .none [] with guardRunning := true })).commands
      = [⟨6, .returning, 20⟩] := by decide

theorem test_guard_does_not_elapse_early :
    ((after (.guardElapse 6) (section6 10029 { crossOf .holding .none [] with guardRunning := true })).cross
      6).state = .holding := by decide

/-- Table 6-6 at 8064. -/
theorem test_confirm_timeout :
    ((after (.confirmDeadlineExpiry 3) ((at_ 8064).setCross 3 (crossOf .throwing (.sent .throwing 8064)
      [zoneOf (some 3) .honored 8000]))).cross 3).state = .fault := by decide

/-- Table 6-5 at 8: a report against a QUEUED RETURN. -/
theorem test_wrong_position_takes_the_command :
    (after (.position 9 .divert) { (at_ 8).setCross 9 (crossOf .returning (.queued .returning) []) with
      commands := [⟨7, .returning, 20⟩, ⟨9, .returning, 20⟩] }).commands = [⟨7, .returning, 20⟩] := by decide

/-- Table 6-6 at 8450 and 8698. -/
theorem test_clear_of_a_busy_zone :
    sentReply (after (.crossoverClear 1 [3]) ((at_ 8450).setCross 3 (crossOf .fault .none
      [zoneOf (some 5) (.denied .fault) 8200]))) = some (.zoneBusy, []) := by decide

theorem test_clear_returns_the_diverter :
    (after (.crossoverClear 1 [3]) ((at_ 8698).setCross 3 (crossOf .fault .none []))).commands =
      [⟨3, .returning, 20⟩] := by decide

/-- Table 11-4 at 300. -/
theorem test_crossover_set_brings_into_service :
    ((after (.crossoverSet 1 [4, 1, 20, 30, 60, 0x05, 0xDC]) (at_ 300)).cross 4).state = .returning := by
  decide

/-- Table 12-11 part 1: an OPEN record, byte by byte but for bit 6 of byte 1. -/
theorem test_read_crossover_states_the_limits :
    (match (after (.readCrossover 1 [3]) ((at_ 9000).setCross 3 (crossOf .opened .none []))).out.transmitter
      with
      | .sending (.reply _ _ _ bytes) _ => (bytes.drop 3).take 4
      | .sending _ _ => []
      | .free => []) = [30, 60, 0x05, 0xDC] := by decide

/-- Table 12-11 note 2: byte 2 of LAST with the new flag set, for exits at XD and XS and for no exit, whatever the
bits that no table assigns. -/
theorem test_passage_flags :
    ([some (7, .xd), some (7, .xs), none] : List (Option (Time × ExitSensor))).map (fun exit =>
      (passageBytes (fun _ => 0xFF) true true (some ⟨none, false, .none, .unverified, 5, exit⟩)).drop 2 |>.take 1)
      = [[0xFF], [0xF7], [0xF3]] := by decide

/-! ### Throttle shaping (7.10) and rail rounds (8.9) -/

/-- 7.10(1): slot 3's profile, with a last step. -/
def slot3 (last : Nat) (failsafe : Bool) : Slot :=
  { source := .handset 0, active := ⟨20, 384, .progressive, 55, 6, 8, 4, .single⟩, pendingProfile := none
    wish := false, lastStep := last, failsafe := failsafe }

/-- The round at the drive frame of slot 3. -/
def drive3 (trigger : Byte) (cap : Nat) (r : Slot) : State :=
  { ((at_ 246).setEntry 0 (some { liveEntry 0x1100 400 false with
      sample := { trigger := trigger, lc := false, pair := false, seq := 0 }, bound := some 2 })).setSlot 2 r
    with track := .run, cap := cap, railFresh := false, framePos := 2 }

theorem test_drive_step : ((after (.driveFrame 2) (drive3 200 63 (slot3 30 false))).slot 2).lastStep = 38 := by
  decide

/-- Table 7-7, frame 11. -/
theorem test_drive_decay_under_a_cap :
    (after (.driveFrame 2) (drive3 255 10 (slot3 16 true))).railLine =
      some (.drive 2 10 false false true true) := by decide

/-- Table 8-5, frame 0. -/
theorem test_head_frame :
    (after .headFrame { at_ 252 with
      track := .run, cap := 40, roundNumber := 41, framePos := 11, railFresh := false }).railLine =
      some (.head 42 .run 40) := by decide

/-- Table 12-13: type 0, round 42, RUN, cap 40. -/
theorem test_head_bits : (RailFrame.head 42 .run 40).bits = 0b000010101001101000#18 := by decide

/-- 8.9 at frame 9. -/
def gate9 : State :=
  { ((at_ 250).setCross 6 (crossOf .throwing (.queued .throwing) [])).setCross 3
      (crossOf .returning (.queued .returning) []) with
    commands := [⟨6, .throwing, 20⟩, ⟨3, .returning, 20⟩], framePos := 8, railFresh := false }

theorem test_gate_frame_sends : ((after .gateFrame gate9).cross 6).status = .sent .throwing 310 := by decide

/-- Table 8-4, frame 11: slot (41 mod 8) + 1 = 2. -/
theorem test_code_frame :
    (after .codeFrame { (at_ 251).setCode 1 (some ⟨100, 30⟩) with
      roundNumber := 41, framePos := 10, railFresh := false }).railLine = some (.code (some ⟨100, 30⟩)) := by
  decide

/-! ### Track (9.6) -/

theorem test_assertion_makes_dark :
    ((after .faultLineAsserted ((at_ 40000).setCross 8 (crossOf .fault .none
      [zoneOf none .none 39000]))).cross 8) = crossOf .dark .none [] := by decide

theorem test_line_released :
    (after .faultLineReleased { at_ 40800 with track := .cutoff, faultLine := true }).track = .cutoff := by
  decide

/-- Table 9-3 at 41000. -/
theorem test_clear_cutoff_returns :
    (after (.clearCutoff 1 []) { ((at_ 41000).setCross 2 (crossOf .dark .none [])).setCross 5
      (crossOf .dark .none []) with track := .cutoff }).commands =
      [⟨2, .returning, 20⟩, ⟨5, .returning, 20⟩] := by decide

/-- 11.8(4): TRACK(RUN, 63) is answered with RUN and 63. -/
theorem test_track_runs : sentReply (after (.track 1 [0, 63]) (at_ 9100)) = some (.ok, [1, 63]) := by decide

theorem test_track_in_cutoff :
    sentReply (after (.track 1 [0, 63]) { at_ 40010 with track := .cutoff }) = some (.cutoffActive, []) := by
  decide

/-! ### The console and the hand link (10.7, 11.8) -/

/-- Table 11-4 at 200. -/
theorem test_status :
    sentReply (after (.status 1 []) (at_ 200)) =
      some (.ok, [0, 63, 0, 0, 0, 0, 200, 0, 0, 0, 0, 0, 0, 0, 0, 0]) := by decide

/-- Table 12-9: a LIVE entry 300 ms from its silence deadline. -/
theorem test_read_handset :
    sentReply (after (.readHandset 1 [2]) (pillar (.live 30300 false) false 30000)) =
      some (.ok, [1, 0x4A, 0x17, 150, 0x70, 5, 0, 0, 0x01, 0x2C]) := by decide

/-- Table 12-10: the source, its number and the last step. -/
theorem test_read_slot :
    (sentReply (after (.readSlot 1 [3]) (drive3 200 63 (slot3 38 false)))).map
      (fun r => (r.2.take 2, (r.2.drop 3).take 8)) =
      some ([1, 0], [38, 20, 0x01, 0x80, 55, 6, 8, 4]) := by decide

theorem test_unknown_request :
    sentReply (after (.unknownRequest 9 0x06 []) (at_ 0)) = some (.unknownRequest, []) := by decide

theorem test_link_set_clamps :
    sentReply (after (.linkSet 1 [0, 0, 0x01, 0x00, 0]) (at_ 0)) = some (.ok, [0, 50, 255, 1]) := by decide

/-- Table 10-3, N1 ends: the reply overtakes the notices. -/
theorem test_reply_before_notice :
    sentReply (after .transmitterFrameEnd { at_ 0 with out :=
      ⟨[⟨1, 3, .ok, .single [7]⟩], [⟨0x1100, .bound 5⟩], [⟨.cutoff, 0, false⟩], false,
        .sending (.notice ⟨.cutoffCleared, 0, false⟩) []⟩ }) = some (.ok, [7]) := by decide

theorem test_bad_check_is_discarded :
    (after (.handLinkFrameDiscard [0xC3, 0x10, 0x04, 0x4A, 0x17, 0, 0x32, 0]) (at_ 20000)).entry 0 = none := by
  decide

theorem test_hand_byte_timeout : (after .handLinkByteTimeout { at_ 0 with handRx := [0xC3] }).handRx = [] := by
  decide

/-- R108: a kind 2 head byte is discarded at once, and the port hunts. -/
theorem test_section_kind_is_discarded :
    (after (.sectionFrameDiscard [0xB4, 0x26]) (at_ 0)).sectionRx = [] := by decide

theorem test_section_byte_timeout :
    (after .sectionByteTimeout { at_ 0 with sectionRx := [0xB4] }).sectionRx = [] := by decide

/-! ### Resets (6.10, 11.8) -/

/-- Table 6-5 at 0, for two of its crossovers. -/
theorem test_restart_returns :
    (after (.restart 1 []) ((((at_ 5000).setCross 13 (crossOf .opened .none [])).setCross 1
      (crossOf .passing .none [zoneOf none .none 4000])))).commands =
      [⟨1, .returning, 20⟩, ⟨13, .returning, 20⟩] := by decide

theorem test_power_on_with_the_line_asserted : (after (.powerOnReset true) (at_ 0)).track = .cutoff := by
  decide

/-- 11.8(1): STARTED(POWER_ON) is on the line at TIME 0. -/
theorem test_power_on_starts_its_notice :
    (after (.powerOnReset false) (at_ 77)).out.transmitter =
      .sending (.notice ⟨.started .powerOn, 0, false⟩) [] := by decide

/-! ### Witnesses: a state that meets the invariants, with every kind of record in it -/

/-- Handsets 0 (LIVE, bound to slot 1), 1 (LOST, bound to slot 2), 2 (LIVE, unbound) and 3 (LIVE, with the only
window), a pace slot 3 and a NONE slot 4 that holds a code. -/
def paired : State :=
  { ((((((((at_ 100000).setEntry 0 (some { liveEntry 0x4A17 100200 false with bound := some 0 })).setEntry 1
      (some { liveEntry 0x4A18 0 false with bound := some 1, phase := .lost (some 150000) })).setEntry 2
      (some (liveEntry 0x4A19 100300 false))).setEntry 3 (some (liveEntry 0x4A1A 100300 true))).setSlot 0
      { slotOf (.handset 0) with wish := true }).setSlot 1
      { slotOf (.handset 1) with failsafe := true }).setSlot 2
      { slotOf (.pace 30) with wish := true }).setCode 0 (some ⟨40, 12⟩) |>.setCode 1 (some ⟨80, 30⟩)
      |>.setCode 2 (some ⟨120, 40⟩) |>.setCode 3 (some ⟨160, 60⟩) with
    windows := [⟨3, 105000⟩], track := .run, railFresh := false }

/-- `paired` with a crossover in each state of Table 5-2 but DARK, and two commands waiting. -/
def busy : State :=
  { (((((((((paired.setCross 0 (crossOf .opened .none [])).setCross 1 (crossOf .passing .none
      [zoneOf (some 2) (.denied .occupied) 99000, zoneOf none .none 99500])).setCross 2
      (crossOf .throwing (.sent .throwing 100050) [zoneOf (some 2) .honored 99000])).setCross 3
      (crossOf .diverted .none [zoneOf (some 0) .honored 99000, zoneOf (some 1) .none 99500])).setCross 4
      { crossOf .holding .none [] with settled := 99990, guardRunning := true }).setCross 5
      (crossOf .returning (.queued .returning) [])).setCross 6 (crossOf .fault .none [])).setCross 7
      (crossOf .throwing (.queued .throwing) [zoneOf (some 2) .honored 99000])).setCross 8
      (crossOf .passing .none [zoneOf (some 2) .none 99000])) with
    commands := [⟨5, .returning, 20⟩, ⟨7, .throwing, 20⟩] }

/-- Eight commands queued, of crossovers 8 to 15, and the RETURN of crossover 5 OWED. -/
def full : State :=
  { (busy.setCross 5 (crossOf .returning (.owed 20) [])) with
    commands := (List.finRange 8).map fun i => ⟨⟨i.val + 8, by omega⟩, .returning, 20⟩ }

theorem witness_linkInv : LinkInv busy := by decide

/-- Nothing received, a start byte alone, and a frame short of its check byte alone, on each line. -/
theorem witness_receiveInv :
    ReceiveInv busy ∧ ReceiveInv { busy with handRx := [0xC3], sectionRx := [0xB4] } ∧
    ReceiveInv { busy with handRx := [0xC3, 0x20, 2, 1, 0x51], sectionRx := [0xB4, 0x12, 1] } :=
  ⟨by decide, by decide, by decide⟩

theorem witness_windowInv : WindowInv paired := by decide
theorem witness_bindingInv : BindingInv paired := by decide
theorem witness_radioInv : RadioInv paired := by decide
theorem witness_beaconInv : BeaconInv paired := by decide
theorem witness_rangeInv : RangeInv busy ∧ RangeInv paired :=
  ⟨⟨by decide, by decide, by decide, by decide⟩, by decide, by decide, by decide, by decide⟩
theorem witness_crossInv : CrossInv busy := by
  refine ⟨fun x => ⟨?_, ?_⟩, ?_, ?_⟩
  · revert x; decide
  · revert x; decide
  · decide
  · decide

/-! ### Witnesses of the statements, in the order of Obligations.lean -/

/-- `paired` with `n` replies queued behind a frame on the line. -/
def replying (n : Nat) : State :=
  { paired with out := ⟨List.replicate n ⟨1, 3, .ok, .single [7]⟩, [], [], false,
    .sending (.notice ⟨.cutoff, 0, false⟩) []⟩ }

/-- CUTOFF with the line released, and crossovers 2 and 9 DARK, 9 of them out of service. -/
def cut : State :=
  { (paired.setCross 2 (crossOf .dark .none [])).setCross 9 { State.reset.cross 0 with state := .dark } with
    track := .cutoff }

theorem witness_StepAnswersAndKeepsTheQueueOrder : busy.pending = [] := by decide

theorem witness_PowerOnStateMeetsTheInvariants :
    (∃ t, exec (.powerOnReset true) busy = .next t) ∧ ∃ t, exec (.powerOnReset false) busy = .next t :=
  ⟨⟨_, rfl⟩, ⟨_, rfl⟩⟩

/-- A step from a state that meets the invariants. -/
theorem witness_step : step { busy with pending := [.driveFrame 0] } =
    .next (after (.driveFrame 0) { busy with pending := [] }) := rfl

theorem witness_StepKeepsTheCodesSeparated :
    (CodeOk ⟨16, 1⟩ ∧ CodeOk ⟨255, 254⟩) ∧ (1 ≤ 1 ∧ 1 ≤ 255 ∧ 0 ≤ 1) ∧
    paired.code 1 = some ⟨80, 30⟩ ∧ distance ⟨85, 35⟩ ⟨80, 30⟩ ≤ paired.tolerance := by decide

theorem witness_CutoffIsLeftOnlyByClearCutoffOrAReset :
    cut.track = .cutoff ∧ ReceiveInv cut ∧ WellFormed (.clearCutoff 1 []) = true ∧
    (after (.clearCutoff 1 []) cut).track ≠ .cutoff ∧ (after (.restart 1 []) cut).track ≠ .cutoff ∧
    (after (.powerOnReset false) cut).track ≠ .cutoff ∧
    (after (.handLinkFrameDiscard (handFrame 0x20 [1, 0x51])) cut).track ≠ .cutoff := by decide +kernel

theorem witness_APaceSlotNeverPassesToAHandset :
    BindingInv busy ∧ (busy.slot 2).source = .pace 30 ∧ (∀ bytes, Instr.bind 1 [2, 3] ≠ .handLinkFrameDiscard bytes) :=
  ⟨by decide, by decide, fun _ h => nomatch h⟩

/-- The report that faults crossover 9 gives its room to the RETURN of crossover 5. -/
theorem witness_OtherCrossoversAreLeftAlone :
    (9 : CrossNo) ≠ 5 ∧ ((after (.position 9 .divert) (full.setCross 9
      (crossOf .returning (.queued .returning) []))).cross 5).status = .queued .returning := by decide

/-- Each of the other commands changes the record of the crossover it names. -/
theorem witness_OtherCrossoversAreLeftAlone_commands :
    (after (.sighting 0 0 255 255) busy).cross 0 ≠ busy.cross 0 ∧
    (let s := { busy with time := 100500 };
      (after (.clearDeadlineExpiry 8 0) s).cross 8 ≠ s.cross 8) ∧
    (let s := { busy with time := 99990 + 30 }; (after (.guardElapse 4) s).cross 4 ≠ s.cross 4) ∧
    (let s := { busy with time := 100050 };
      (after (.confirmDeadlineExpiry 2) s).cross 2 ≠ s.cross 2) ∧
    (let s := busy.setCross 0 { busy.cross 0 with lastNew := true };
      (after (.readCrossover 1 [0]) s).cross 0 ≠ s.cross 0) ∧
    (after (.crossoverClear 1 [6]) busy).cross 6 ≠ busy.cross 6 ∧
    (after (.crossoverSet 1 [9, 1, 20, 30, 60, 5, 220]) busy).cross 9 ≠ busy.cross 9 := by decide +kernel

theorem witness_EitherTakerOfASightingFirst :
    NoneDisarmed paired ∧ BeaconInv paired ∧ GoodMeasurement 80 30 ∧ Measures paired 80 30 (some 1) ∧
    Measures paired 200 10 none ∧ sensorArg 0 = some .a ∧ sensorArg 2 = some (.exit .xd) := by
  refine ⟨by decide, by decide, by decide, ⟨⟨80, 30⟩, by decide, by decide⟩, fun k c h => ?_, by decide, by decide⟩
  have : ∀ k : SlotNo, ∀ c ∈ paired.code k, paired.tolerance < distance ⟨200, 10⟩ c := by decide
  exact this k c h

theorem witness_RequestIsDiscardedWhileRepliesAreFull :
    4 ≤ (replying 4).out.replies.length ∧ (.restart 1 [], 0x7F, 0) ∈ requestTable 1 [] := by decide

theorem witness_FailedChecksAreAnswered :
    (replying 3).out.replies.length < 4 ∧
    ((.bind 1 [4], 0x20, 2) ∈ requestTable 1 [4] ∧ [(4 : Byte)].length ≠ 2) ∧
    ((0x00 : Byte) ∉ Config.requestCodes ∧ (0x7E : Byte) ∉ Config.requestCodes) ∧
    (12 ≤ (12 : Byte).toNat ∧ 12 ≤ (255 : Byte).toNat) ∧
    ((0 : Byte).toNat = 0 ∧ 9 ≤ (9 : Byte).toNat) ∧ 16 ≤ (16 : Byte).toNat := by decide

theorem witness_OwnRefusalsChangeNothingElse :
    paired.entry 4 = none ∧ (paired.entry 2 ≠ none ∧ ∃ p, (paired.slot 2).source = .pace p) ∧
    (∃ g, (paired.slot 0).source = .handset g) ∧ (∀ p, (paired.slot 3).source ≠ .pace p) ∧
    (busy.cross 0).state ≠ .fault ∧
    (let s := busy.setCross 6 (crossOf .fault .none [zoneOf none .none 99000]);
      (s.cross 6).state = .fault ∧ (s.cross 6).zone ≠ []) ∧
    cut.track = .cutoff ∧ cut.faultLine = false ∧ { cut with faultLine := true }.faultLine = true ∧
    paired.track ≠ .cutoff := by
  refine ⟨by decide, ⟨by decide, 30, by decide⟩, ⟨0, by decide⟩, fun p h => ?_, by decide, by decide,
    by decide, by decide, by decide, by decide⟩
  have : (paired.slot 3).source = .none := by decide
  rw [this] at h
  exact nomatch h

theorem witness_StatusReportsThePart : (replying 3).out.replies.length < 4 := by decide

theorem witness_ReadHandsetAndWindowsReport :
    paired.out.replies.length < 4 ∧ paired.entry 4 = none ∧ (paired.entry 0).isLive = true ∧
    (paired.entry 1).isLost = true ∧ WindowInv paired ∧
    (1 ≤ ((1 : Time) - 0).toNat ∧ ((0x80000000 : Time) - 0).toNat ≤ 2 ^ 31) := by decide

theorem witness_ReadSlotReportsTheRecord :
    (paired.slot 0).pendingProfile = none ∧
    ((paired.setSlot 0 { slotOf .none with pendingProfile := some (slotOf .none).active }).slot
      0).pendingProfile = some (slotOf .none).active := by decide

theorem witness_ReadCrossoverReportsTheRecord :
    busy.out.replies.length < 4 ∧ RangeInv busy ∧ CrossInv busy ∧ (busy.cross 0).staged = none ∧
    (busy.cross 2).status ≠ .none ∧
    ((busy.setCross 1 { busy.cross 1 with staged := some (busy.cross 1).config }).cross 1).staged ≠ none :=
  ⟨by decide, witness_rangeInv.1, witness_crossInv, by decide, by decide, by decide⟩

theorem witness_ProfileRequestsLoadInTwoHalves :
    (replying 3).out.replies.length < 4 ∧ ([] : List Byte).length ≠ 5 := by decide

theorem witness_BindTakesTheSlot :
    paired.out.replies.length < 4 ∧ BindingInv paired ∧ (∃ e, paired.entry 3 = some e) ∧
    ∀ p, (paired.slot 0).source ≠ .pace p := by
  refine ⟨by decide, by decide, ⟨_, rfl⟩, fun p h => ?_⟩
  have : (paired.slot 0).source = .handset 0 := by decide
  rw [this] at h
  exact nomatch h

theorem witness_UnbindForgetAndReleaseFreeTheSlot :
    (paired.slot 0).source = .handset 0 ∧ (paired.slot 2).source = .pace 30 ∧
    (paired.slot 3).source = .none ∧ (∃ e, paired.entry 3 = some e) ∧
    ((paired.entry 1).map (·.phase) = some (.lost (some 150000)) ∧
      ((150000 : Time) - 150000).toNat < 2 ^ 31 ∧
      ((150000 + 0x7FFFFFFF : Time) - 150000).toNat < 2 ^ 31) :=
  ⟨by decide, by decide, by decide, ⟨_, rfl⟩, by decide⟩

theorem witness_PaceSlotsAreSetByTheConsole :
    (∀ h, (paired.slot 3).source ≠ .handset h) ∧ (∀ h, (paired.slot 2).source ≠ .handset h) ∧
    (paired.slot 2).source = .pace 30 := by decide

/-- 21 from slot 1's code, which is stored at tolerance 10, and 20 from it, which clashes. -/
theorem witness_BeaconRequestsSetAndClearACode :
    (∀ j : SlotNo, ∀ a ∈ paired.code j, j ≠ 4 → 2 * paired.tolerance < distance ⟨19, 12⟩ a) ∧
    (paired.code 0 = some ⟨40, 12⟩ ∧ distance ⟨20, 12⟩ ⟨40, 12⟩ ≤ 2 * paired.tolerance) ∧
    (paired.code 1 = some ⟨80, 30⟩ ∧ distance ⟨90, 30⟩ ⟨80, 30⟩ ≤ 2 * paired.tolerance ∧
      ∀ i : SlotNo, ∀ b ∈ paired.code i, i < 1 → 2 * paired.tolerance < distance ⟨90, 30⟩ b) := by decide

theorem witness_ToleranceChecksEveryPair :
    (paired.code 0 = some ⟨40, 12⟩ ∧ paired.code 1 = some ⟨80, 30⟩ ∧
      distance ⟨40, 12⟩ ⟨80, 30⟩ ≤ 2 * 29) ∧
    (∀ i l : SlotNo, i < l → (i < 0 ∨ (i = 0 ∧ l < 1)) → ∀ p ∈ paired.code i, ∀ q ∈ paired.code l,
      2 * 29 < distance p q) ∧
    (∀ j k : SlotNo, j < k → ∀ c ∈ paired.code j, ∀ d ∈ paired.code k, 2 * 24 < distance c d) ∧
    (BeaconInv paired ∧ 10 ≤ paired.tolerance) ∧
    (∀ k : SlotNo, k ≠ 5 → State.reset.code k = none) ∧
    (min (max (0 : Byte).toNat 1) 63 = 1 ∧ min (max (255 : Byte).toNat 1) 63 = 63) := by decide

theorem witness_CrossoverSetStagesOrApplies :
    busy.out.replies.length < 4 ∧
    ((busy.cross 9).state = .disabled ∧ busy.track ≠ .cutoff ∧ busy.commands.length < 8) ∧
    ((full.cross 9).state = .disabled ∧ 8 ≤ full.commands.length) ∧
    ((cut.cross 0).state = .disabled ∧ cut.track = .cutoff) ∧
    (busy.cross 0).state ∉ [.passing, .throwing, .diverted, .holding, .returning, .disabled] ∧
    (busy.cross 3).state ∈ [.passing, .throwing, .diverted, .holding, .returning] ∧
    ((busy.cross 6).state = .fault ∧ (busy.cross 6).zone = []) := by decide

theorem witness_ReturnsAreDecided :
    ((busy.cross 6).state = .fault ∧ (busy.cross 6).zone = []) ∧
    { full with commands := full.commands.drop 1 }.commands.length < 8 ∧ 8 ≤ full.commands.length ∧
    (let s := { busy with time := 99990 + 30 };
      (s.cross 4).guardRunning = true ∧ (s.cross 4).config.dead ≤ (s.time - (s.cross 4).settled).toNat ∧
        (s.cross 4).state = .holding) ∧
    (let s := busy.setCross 0 { crossOf .opened .none [] with guardRunning := true };
      (s.cross 0).guardRunning = true ∧ (s.cross 0).config.dead ≤ (s.time - (s.cross 0).settled).toNat ∧
        (s.cross 0).state ≠ .holding) := by decide

theorem witness_TrackAndLinkSetStoreTheirValues :
    (replying 3).out.replies.length < 4 ∧ (replying 3).track ≠ .cutoff := by decide

theorem witness_FaultLineCutsTheTrackOff :
    busy.track ≠ .cutoff ∧ State.reset.track ≠ .cutoff ∧ cut.track = .cutoff := by decide

theorem witness_ClearCutoffResynchronises :
    cut.out.replies.length < 4 ∧ cut.faultLine = false ∧ cut.track = .cutoff ∧ cut.commands = [] ∧
    (List.finRange 16).filter (fun x =>
      decide ((cut.cross x).state = .dark) && (cut.cross x).config.enabled) = [2] := by decide

theorem witness_RestartKeepsWhatTheConsoleLoaded :
    (replying 3).out.replies.length < 4 ∧
    (List.finRange 16).filter (fun x => (busy.cross x).config.enabled) = [0, 1, 2, 3, 4, 5, 6, 7, 8] := by
  decide

/-- Twelve enrolled entries. -/
def crowded : State :=
  (List.finRange 12).foldl (init := paired) fun s h =>
    s.setEntry h (some (liveEntry (BitVec.ofNat 16 (0x1000 + h.val)) 100300 false))

theorem witness_SamplesFromUnknownRadioIds :
    WindowInv paired ∧ (0x0001 : RadioId) = 0x00#8 ++ 0x01#8 ∧ (0x0001 : RadioId) ≠ 0x0000 ∧
    (0xFFFE : RadioId) ≠ 0xFFFF ∧ (0x0002 : Byte).getLsbD 1 = true ∧ (0x0000 : Byte).getLsbD 1 = false ∧
    (∀ g, (paired.entry g).radio ≠ some 0x0001) ∧ paired.entry 4 = none ∧
    (∀ g : EntryNo, g < 4 → paired.entry g ≠ none) ∧ paired.windows.length < 4 ∧
    ((∀ g, (crowded.entry g).radio ≠ some 0x0001) ∧ ∀ g, crowded.entry g ≠ none) ∧
    ([0, 1, 0] : List Byte).length ≠ 4 ∧ ([0, 1, 0, 2, 0] : List Byte).length ≠ 4 := by decide

/-- Four windows, of entries 2, 3, 4 and 5. -/
def fourWindows : State :=
  { (((paired.setEntry 2 (some (liveEntry 0x4A19 100300 true))).setEntry 4
      (some (liveEntry 0x4A1B 100300 true))).setEntry 5 (some (liveEntry 0x4A1C 100300 true))) with
    windows := [⟨3, 105000⟩, ⟨2, 106000⟩, ⟨5, 107000⟩, ⟨4, 108000⟩] }

theorem witness_SamplesFromUnknownRadioIds_listFull :
    WindowInv fourWindows ∧ 4 ≤ fourWindows.windows.length ∧ fourWindows.entry 6 = none ∧
    (∀ g : EntryNo, g < 6 → fourWindows.entry g ≠ none) := by decide

theorem witness_DuplicateOnlyRestartsTheSilenceTimer :
    RadioInv paired ∧ (∃ e, paired.entry 0 = some e ∧ e.radioId = 0x4A#8 ++ 0x17#8 ∧
      e.phase = .live 100200 false ∧ (0x30 : Byte).extractLsb' 4 4 = e.sample.seq) ∧
    ∃ e, paired.entry 1 = some e ∧ e.radioId = 0x4A#8 ++ 0x18#8 ∧ e.phase = .lost (some 150000) :=
  ⟨by decide, ⟨_, rfl, by decide, by decide, by decide⟩, ⟨_, rfl, by decide, by decide⟩⟩

/-- LC and PAIR pressed, sequence 4: from entry 0 (no window), 1 (LOST) and 3 (a window). -/
theorem witness_AcceptedSampleIsTaken :
    (RadioInv paired ∧ WindowInv paired ∧ RadioInv fourWindows ∧ WindowInv fourWindows) ∧
    (∃ e, paired.entry 0 = some e ∧ e.radioId = 0x4A#8 ++ 0x17#8 ∧ (paired.entry 0).isLive = true ∧
      (0x43 : Byte).extractLsb' 4 4 ≠ e.sample.seq ∧ (paired.entry 0).window = false ∧
      ((0x43 : Byte).getLsbD 1 && !e.sample.pair) = true ∧ paired.windows.length < 4 ∧
      4 ≤ fourWindows.windows.length) ∧
    (∃ e, paired.entry 1 = some e ∧ (paired.entry 1).isLost = true ∧
      ((0x30 : Byte).getLsbD 1 && !e.sample.pair) = false) ∧
    ∃ e, paired.entry 3 = some e ∧ (paired.entry 3).window = true ∧
      ((0x43 : Byte).getLsbD 1 && !e.sample.pair) = true :=
  ⟨by decide, ⟨_, rfl, by decide⟩, ⟨_, rfl, by decide⟩, ⟨_, rfl, by decide⟩⟩

theorem witness_SilenceMakesTheEntryLost :
    (∃ e, paired.entry 3 = some e ∧ e.phase = .live 100300 true) ∧
    ((100300 : Time) - 100300).toNat < 2 ^ 31 ∧ ((100300 + 0x7FFFFFFF : Time) - 100300).toNat < 2 ^ 31 :=
  ⟨⟨_, rfl, by decide⟩, by decide⟩

theorem witness_WindowExpiryClosesTheWindow :
    WindowInv fourWindows ∧ (∃ e, fourWindows.entry 2 = some e) ∧
    (⟨2, 106000⟩ : Window) ∈ fourWindows.windows ∧ ((106000 : Time) - 106000).toNat < 2 ^ 31 :=
  ⟨by decide, ⟨_, rfl⟩, by decide⟩

theorem witness_SampleAndSilenceExpiryInEitherOrder :
    RadioInv paired ∧ BindingInv paired ∧ RangeInv paired ∧
    (∃ e, paired.entry 0 = some e ∧ e.radioId = 0x4A#8 ++ 0x17#8 ∧ e.phase = .live 100200 false ∧
      e.bound = some 0) ∧ ((100200 : Time) - 100200).toNat < 2 ^ 31 :=
  ⟨by decide, by decide, witness_rangeInv.2, ⟨_, rfl, by decide⟩, by decide⟩

/-- One millisecond before each deadline, and without one. -/
theorem witness_ADeadlineNotReachedDoesNothing :
    (2 ^ 31 ≤ ((100199 : Time) - 100200).toNat ∧ 2 ^ 31 ≤ ((0x80000000 : Time) - 0).toNat) ∧
    paired.entry 4 = none ∧ (busy.cross 0).zone[(0 : Nat)]? = none ∧ (busy.cross 0).status = .none ∧
    (busy.cross 0).guardRunning = false ∧
    (let s := { busy with time := 99990 + 29 };
      (s.time - (s.cross 4).settled).toNat < (s.cross 4).config.dead) := by decide

theorem witness_MalformedSightingIsDiscarded :
    ((254 : Byte).toNat < (255 : Byte).toNat ∧ (0 : Byte).toNat < (1 : Byte).toNat) ∧
    (3 : Byte) ∉ ([0, 1, 2] : List Byte) ∧
    ((255 : Byte).toNat ≤ (255 : Byte).toNat ∧ (0 : Byte).toNat ≤ (1 : Byte).toNat ∧ (1 : Byte) ≠ 0) := by
  decide

/-- Slot 4 has no source and the code (160, 60); crossover 9 is DISABLED, crossover 2 of `cut` DARK, and crossover 0 of
`busy` OPEN. -/
theorem witness_EligibleSightingBindsTheHeadWindow :
    BindingInv paired ∧ BeaconInv paired ∧ GoodMeasurement 160 60 ∧ (paired.cross 9).state = .disabled ∧
    (cut.cross 2).state = .dark ∧ Measures paired 160 60 (some 3) ∧ (paired.slot 3).source = .none ∧
    paired.windows = [⟨3, 105000⟩] ∧ (∃ e, paired.entry 3 = some e) ∧
    ((busy.cross 0).state = .opened ∧ BindingInv busy ∧ BeaconInv busy ∧ (busy.slot 3).source = .none ∧
      busy.windows = [⟨3, 105000⟩] ∧ Measures busy 160 60 (some 3) ∧ ∃ e, busy.entry 3 = some e) ∧
    NoPairing paired (some 1) ∧ NoPairing paired none := by
  refine ⟨by decide, by decide, by decide, by decide, by decide, ⟨⟨160, 60⟩, by decide, by decide⟩, by decide,
    by decide, ⟨_, rfl⟩, ⟨by decide, by decide, by decide, by decide, by decide,
      ⟨⟨160, 60⟩, by decide, by decide⟩, ⟨_, rfl⟩⟩, ?_, ?_⟩ <;> (unfold NoPairing; decide)

/-- Measurements of slots 3 (a pace slot, wished) and 1 (a handset's, wished) and of no slot, which do nothing to
pairing. -/
theorem witness_measurements :
    BeaconInv busy ∧ (GoodMeasurement 120 40 ∧ GoodMeasurement 40 12 ∧ GoodMeasurement 255 255 ∧ GoodMeasurement 1 0) ∧
    Measures busy 120 40 (some 2) ∧ Measures busy 40 12 (some 0) ∧ Measures busy 255 255 none ∧
    NoPairing busy (some 2) ∧ NoPairing busy (some 0) ∧ NoPairing busy none := by
  refine ⟨by decide, by decide, ⟨⟨120, 40⟩, by decide, by decide⟩, ⟨⟨40, 12⟩, by decide, by decide⟩,
    fun k c h => ?_, ?_, ?_, ?_⟩
  · have : ∀ k : SlotNo, ∀ c ∈ busy.code k, busy.tolerance < distance ⟨255, 255⟩ c := by decide
    exact this k c h
  all_goals unfold NoPairing; decide

/-- With `witness_measurements`: slot 3 wished, UNKNOWN not; the guard of crossover 0 elapsed, and running; 7 and 8
commands queued. -/
theorem witness_ApproachAtOpenIsDecided :
    ((busy.cross 0).state = .opened ∧ (busy.cross 0).zone = []) ∧ (busy.slot 2).wish = true ∧
    (busy.cross 0).guardRunning = false ∧
    ((busy.setCross 0 { crossOf .opened .none [] with guardRunning := true }).cross 0).guardRunning = true ∧
    { full with commands := full.commands.drop 1 }.commands.length < 8 ∧ 8 ≤ full.commands.length := by decide

/-- A crossover for each row of Table 5-4, with 0 to 3 entries, none of slot 1. -/
theorem witness_ApproachElsewhereIsDecided :
    ((busy.cross 1).state = .passing ∧ (busy.cross 1).zone.length < 4) ∧
    ((busy.cross 2).state = .throwing ∧ (busy.cross 4).state = .holding ∧ (busy.cross 5).state = .returning ∧
      (busy.cross 6).state = .fault ∧ (busy.cross 6).zone.length = 0) ∧
    (let c := crossOf .diverted .none [zoneOf none .none 1, zoneOf none .none 2, zoneOf none .none 3];
      c.state = .diverted ∧ c.zone.length < 4 ∧ NotInZone c.zone (some 0)) ∧
    NotInZone (busy.cross 1).zone (some 0) := by
  refine ⟨by decide, by decide, ?_, ?_⟩
  · refine ⟨by decide, by decide, ?_⟩
    unfold NotInZone; decide
  · unfold NotInZone; decide

/-- Crossover 3 holds slot 1's entry and another's; and a queue of 4 without slot 1. -/
theorem witness_ApproachDisplacesAnEntry :
    (∃ e post, (busy.cross 3).zone = [] ++ e :: post ∧ [] ++ post ≠ [] ∧ NotInZone ([] ++ post) (some 0) ∧
      e.slot = some 0 ∧ ([] ++ post).length ≤ 3) ∧
    (∃ e post, [zoneOf (some 1) .none 1, zoneOf none .none 2, zoneOf (some 2) .honored 3, zoneOf none .none 4] =
        [] ++ e :: post ∧ NotInZone ([] ++ post) (some 0) ∧ NotInZone [e] (some 0) ∧ post.length = 3) := by
  refine ⟨⟨_, _, rfl, by decide, ?_, by decide, by decide⟩, ⟨_, _, rfl, ?_, ?_, by decide⟩⟩ <;>
    (unfold NotInZone; decide)

/-- The only entry is the sighted slot's, in each of the five states; with the wish armed and disarmed, a staged
configuration that enables (its guard running at the last millisecond, and elapsed) and one that disables, the guard
running and elapsed, and 7 and 8 commands queued. -/
theorem witness_ApproachAfterDisplacingTheOnlyEntry :
    (∃ e, (busy.cross 8).zone = [e] ∧ e.slot = some 2 ∧ (busy.cross 8).state = .passing ∧
      (busy.cross 8).staged = none ∧ (busy.cross 8).guardRunning = false ∧ (busy.slot 2).wish = true ∧
      { busy.cross 8 with guardRunning := true }.guardRunning = true) ∧
    ((busy.setSlot 2 { busy.slot 2 with wish := false }).slot 2).wish = false ∧
    ((busy.cross 0).config.enabled = true ∧ (State.reset.cross 0).config.enabled = false ∧
      ((10029 : Time) - 10000).toNat < (busy.cross 0).config.dead ∧
      ¬ ((10030 : Time) - 10000).toNat < (busy.cross 0).config.dead) ∧
    ({ full with commands := full.commands.drop 1 }.commands.length < 8 ∧ 8 ≤ full.commands.length) ∧
    (∀ state ∈ ([.diverted, .throwing, .returning, .fault] : List CrossState), ∃ e,
      (crossOf state .none [zoneOf (some 2) .honored 99000]).zone = [e] ∧ e.slot = some 2) ∧
    (crossOf .fault .none []).config.enabled = true ∧
    { crossOf .fault .none [] with config := (State.reset.cross 0).config }.config.enabled = false :=
  ⟨⟨_, rfl, by decide⟩, by decide, by decide, by decide, fun _ _ => ⟨_, rfl, rfl⟩, by decide, by decide⟩

/-- Crossover 3 holds HONORED slot 1 at the head and NONE slot 2 behind it; a DENIED entry likewise; crossover 4
holds neither. -/
theorem witness_ClassifiedExitIsJudged :
    (∃ e post, (busy.cross 3).zone = [] ++ e :: post ∧ [] ++ post ≠ [] ∧ e.slot = some 0 ∧ e.decision = .honored) ∧
    (∃ e pre, (busy.cross 3).zone = pre ++ e :: [] ∧ pre ++ [] ≠ [] ∧ e.slot = some 1 ∧ e.decision = .none ∧
      NotInZone pre (some 1)) ∧
    (∃ e post, (busy.cross 1).zone = [] ++ e :: post ∧ [] ++ post ≠ [] ∧ e.slot = some 2 ∧
      e.decision = .denied .occupied) ∧
    NotInZone (busy.cross 4).zone (some 0) := by
  refine ⟨⟨_, _, rfl, by decide⟩, ⟨zoneOf (some 1) .none 99500, [zoneOf (some 0) .honored 99000], by decide,
    by decide, by decide, by decide, ?_⟩, ⟨_, _, rfl, by decide⟩, ?_⟩ <;> (unfold NotInZone; decide)

theorem witness_UnknownExitAndClearDeadlineRemove :
    (busy.cross 4).zone = [] ∧ (busy.cross 4).state ≠ .dark ∧
    (∃ e rest, (busy.cross 1).zone = e :: rest ∧ rest ≠ []) ∧
    (∃ e, (busy.cross 1).zone[(1 : Fin 4).val]? = some e ∧ 2 ≤ (busy.cross 1).zone.length ∧
      ({ busy with time := 101000 }.time - e.clearDeadline).toNat < 2 ^ 31) :=
  ⟨by decide, by decide, ⟨_, _, rfl, by decide⟩, ⟨_, rfl, by decide⟩⟩

/-- With `witness_measurements`: crossover 8's only entry, of slot 3, at its deadline, at an UNKNOWN exit and at its own
exit; the same record with an entry of each decision; staged, guarded and full variants. -/
theorem witness_EmptiedZoneMovesTheCrossover :
    (∃ e, (busy.cross 8).zone = [e] ∧ e.slot = some 2 ∧ ((100500 : Time) - e.clearDeadline).toNat < 2 ^ 31 ∧
      (busy.cross 8).state = .passing ∧ (busy.cross 8).staged = none) ∧
    (Measures busy 255 255 none ∧ Measures busy 120 40 (some 2) ∧ NoPairing busy (some 2)) ∧
    (∀ d ∈ ([.none, .honored, .denied .occupied] : List Decision),
      (zoneOf (some 2) d 99000).slot = some 2 ∧ (zoneOf (some 2) d 99000).decision = d) ∧
    ({ busy.cross 8 with staged := some (State.reset.cross 0).config }.staged ≠ none) ∧
    (let c := crossOf .diverted .none [zoneOf none .none 99000];
      c.state = .diverted ∧ c.guardRunning = false ∧ { c with guardRunning := true }.guardRunning = true) ∧
    ((busy.cross 2).state = .throwing ∧ ∃ e, (busy.cross 2).zone = [e]) ∧
    (crossOf .fault .none [zoneOf none .none 99000]).state = .fault ∧
    busy.commands.length < 8 ∧ 8 ≤ full.commands.length :=
  ⟨⟨_, rfl, by decide⟩, ⟨witness_measurements.2.2.2.2.1, witness_measurements.2.2.1,
    witness_measurements.2.2.2.2.2.1⟩, by decide, by decide, by decide, ⟨by decide, ⟨_, rfl⟩⟩, by decide,
    by decide, by decide⟩

theorem witness_PositionConfirmsASentCommand :
    ((busy.cross 2).status = .sent .throwing 100050 ∧ (busy.cross 2).state = .throwing ∧
      (busy.cross 2).zone ≠ []) ∧
    (let c := crossOf .throwing (.sent .throwing 100050) [];
      c.zone = [] ∧ 0 < c.config.dead ∧ { c with config.dead := 0 }.config.dead = 0) ∧
    (let c := crossOf .returning (.sent .returning 100050) [zoneOf none .none 99000];
      c.state = .returning ∧ c.zone ≠ [] ∧ c.staged = none ∧ { c with zone := [] }.zone = [] ∧
      { c with staged := some c.config }.staged = some c.config) ∧
    busy.commands.length < 8 ∧ 8 ≤ full.commands.length := by decide

theorem witness_DiverterFailureIsAFault :
    ((busy.cross 9).state = .disabled ∧ (busy.cross 6).state = .fault ∧ (cut.cross 2).state = .dark ∧
      (busy.cross 0).state = .opened ∧ (busy.cross 1).state = .passing ∧ (busy.cross 3).state = .diverted ∧
      (busy.cross 4).state = .holding) ∧
    ((busy.cross 2).state = .throwing ∧ (busy.cross 2).status = .sent .throwing 100050 ∧
      ((100050 : Time) - 100050).toNat < 2 ^ 31) ∧
    ((full.cross 5).state = .returning ∧ (full.cross 5).status = .owed 20) ∧
    (∀ kind, (busy.cross 2).status ≠ .queued kind) ∧ (∀ kind, (full.cross 5).status ≠ .queued kind) := by
  refine ⟨by decide, by decide, by decide, fun k h => ?_, fun k h => ?_⟩
  · have : (busy.cross 2).status = .sent .throwing 100050 := by decide
    rw [this] at h; exact nomatch h
  · have : (full.cross 5).status = .owed 20 := by decide
    rw [this] at h; exact nomatch h

/-- Crossover 7's THROW is QUEUED, with no RETURN OWED and with crossover 5's. -/
theorem witness_FaultOfAQueuedCommandGivesItsRoom :
    ((busy.cross 7).status = .queued .throwing ∧ (busy.cross 7).state = .throwing ∧
      (busy.cross 5).status = .queued .returning ∧ (busy.cross 5).state = .returning) ∧
    (∀ y, (busy.cross y).status.owedPulse = none) ∧
    ((full.cross 7).status = .queued .throwing ∧ (full.cross 5).status = .owed 20 ∧
      ∀ z : CrossNo, z < 5 → (full.cross z).status.owedPulse = none) := by decide

theorem witness_HeadAndCodeFramesAreFormed :
    State.reset.railFresh = true ∧
    ({ busy with framePos := 11 }.railFresh = false ∧ { busy with framePos := 11 }.framePos = 11) ∧
    { busy with framePos := 10 }.framePos = 10 ∧ (7 : SlotNo).val = (255 : BitVec 8).toNat % 8 := by decide

/-- The rows of Table 7-2: RUN, HALT and CUTOFF; NONE, HANDSET with and without failsafe, PACE; a pending profile
with HOLD and without; deadbands and steps at their ends are in the tests of 7.10. -/
theorem witness_DriveFrameFollowsTheTable :
    BindingInv busy ∧ busy.railFresh = false ∧ busy.framePos.val = (0 : SlotNo).val ∧
    (busy.track = .run ∧ cut.track = .cutoff ∧ State.reset.track = .halt) ∧
    ((busy.slot 0).source = .handset 0 ∧ (busy.slot 0).failsafe = false ∧ ∃ e, busy.entry 0 = some e) ∧
    ((busy.slot 1).source = .handset 1 ∧ (busy.slot 1).failsafe = true) ∧
    ((busy.slot 2).source = .pace 30 ∧ (busy.slot 3).source = .none) ∧
    (let r := { slotOf .none with pendingProfile := some { (slotOf .none).active with policy := .hold } };
      (r.pendingProfile.getD r.active).policy = .hold ∧ r.active.policy ≠ .hold) :=
  ⟨by decide, by decide, by decide, by decide, ⟨by decide, by decide, ⟨_, rfl⟩⟩, by decide, by decide, by decide⟩

theorem witness_DriveStepStaysWithinItsBounds :
    (∃ t, exec (.driveFrame 0) busy = .next t) ∧ (busy.railFresh = false ∧ busy.framePos.val = 0) ∧
    (State.reset.railFresh = true ∧ busy.framePos.val ≠ (7 : SlotNo).val) :=
  ⟨⟨_, rfl⟩, by decide, by decide⟩

theorem witness_GateFrameTakesTheHeadCommand :
    ({ paired with framePos := 8 }.framePos = 8 ∧ paired.commands = []) ∧
    ({ busy with framePos := 9 }.framePos = 9 ∧ ∃ d rest, busy.commands = d :: rest) ∧
    (∀ y, (busy.cross y).status.owedPulse = none) ∧
    (∃ d rest, full.commands = d :: rest ∧ (5 : CrossNo) ≠ d.crossover ∧ (full.cross 5).status = .owed 20 ∧
      ∀ z : CrossNo, z < 5 → (full.cross z).status.owedPulse = none) :=
  ⟨by decide, ⟨by decide, ⟨_, _, rfl⟩⟩, by decide, ⟨_, _, rfl, by decide⟩⟩

/-- Each queue at the head of the precedence, and each full rule at its bound. -/
theorem witness_OutboundFramesLeaveByPrecedence :
    (∃ n rest, (replying 1).out.transmitter = .sending (.notice n) [] ∧ (replying 1).out.replies = rest ∧
      rest ≠ []) ∧
    ((replying 0).out.replies = [] ∧ (replying 0).out.echoes = [] ∧ (replying 0).out.notices = []) ∧
    ((List.replicate 7 (⟨1, .released⟩ : Echo)).length < 8 ∧ (List.replicate 8 (⟨1, .released⟩ : Echo)).length = 8) ∧
    ((List.replicate 31 (⟨.cutoff, 0, false⟩ : Notice)).length < 32 ∧
      (List.replicate 32 (⟨.cutoff, 0, false⟩ : Notice)).length = 32) ∧
    (let o := { State.reset.out with transmitter := .free };
      o.transmitter = .free ∧ o.replies = [] ∧ o.echoes = [] ∧ o.notices = []) :=
  ⟨⟨_, _, rfl, rfl, by decide⟩, by decide, by decide, by decide, by decide⟩

/-- Payloads of 0 and 24 bytes, and arguments that fill a frame. -/
theorem witness_ReceivedFrameIsItsCommand :
    paired.handRx = [] ∧ paired.sectionRx = [] ∧ ([] : List Byte).length ≤ 24 ∧
    (List.replicate 24 (0 : Byte)).length ≤ 24 ∧ (List.replicate 22 (0 : Byte)).length + 2 ≤ 24 ∧
    (.restart 1 [], 0x7F, 0) ∈ requestTable 1 [] := by decide

theorem witness_LinesDiscardWhatFailsTheirChecks :
    paired.handRx = [] ∧ paired.sectionRx = [] ∧ (0xC3 : Byte) ∉ [(0xC2 : Byte)] ∧ 24 < (25 : Byte).toNat ∧
    ((0x10 : Byte) :: byte 0 :: []).sum + 0xEF ≠ 0 ∧ (0x20 = (0x20 : Byte) → [(7 : Byte)].length < 2) ∧
    (0x11 : Byte) ≠ 0x10 ∧ (0xB4 : Byte) ∉ [(0xB5 : Byte)] ∧ 2 ≤ (0x20 : Byte).toNat / 16 % 4 ∧
    2 ≤ (0xFF : Byte).toNat / 16 % 4 ∧ (0x0F : Byte).toNat / 16 % 4 = 0 ∧ (0x1F : Byte).toNat / 16 % 4 = 1 ∧
    [(0x0F : Byte), 0, 1, 0].sum + 0 ≠ 0 ∧ [(0x1F : Byte), 1].sum + 0 ≠ 0 ∧ 2 ≤ (2 : Byte).toNat := by decide

theorem witness_FramesAreLaidOut :
    (63 ≤ 63 ∧ 60 ≤ 60 ∧ 255 ≤ 255) ∧ (0x4A17 : RadioId) = 0x4A#8 ++ 0x17#8 ∧
    (0xFFFF : BitVec 16) = 0xFF#8 ++ 0xFF#8 := by decide

end Sys2Proof.Tests
end

section
/-! Reading the records of a state whose receive buffer was emptied or whose window list was replaced, and what each
own refusal answers. -/

namespace Sys2Proof.Machine

variable (s : State)

@[simp] theorem handTaken_entry (h : EntryNo) : s.handTaken.entry h = s.entry h := rfl
@[simp] theorem handTaken_slot (k : SlotNo) : s.handTaken.slot k = s.slot k := rfl

theorem isHandset_iff {o : Source} : o.isHandset = true ↔ ∃ h, o = .handset h := by
  cases o <;> simp [Source.isHandset]

theorem isPace_iff {o : Source} : o.isPace = true ↔ ∃ p, o = .pace p := by
  cases o <;> simp [Source.isPace]

/-- A request with room for its reply answers what its meaning makes of the state with the frame taken (R144). -/
theorem request_taken {s t : State} {take : State → State} (room : s.out.replies.length < 4)
    (effect : take s.handTaken = t) : (Host.Outcome.next (onRequest take s) : Result) = .next t := by
  rw [onRequest_room room, effect]

/-! ### Each request's own refusals (R151 ④) -/

variable {s} (tag v w : Byte)

theorem forgetRequest_free {h : EntryNo} (free : s.entry h = none) :
    forgetRequest tag [byte h.val] s = emit [refusal tag 0x22 .noHandset []] s := by
  simp [forgetRequest, free, refuse_eq]

theorem bindRequest_free {h : EntryNo} (k : SlotNo) (free : s.entry h = none) :
    bindRequest tag [byte h.val, byte (k.val + 1)] s = emit [refusal tag 0x20 .noHandset []] s := by
  simp [bindRequest, free, refuse_eq]

theorem bindRequest_pace {h : EntryNo} {k : SlotNo} (enrolled : s.entry h ≠ none)
    (pace : ∃ p, (s.slot k).source = .pace p) :
    bindRequest tag [byte h.val, byte (k.val + 1)] s = emit [refusal tag 0x20 .slotPace []] s := by
  simp [bindRequest, enrolled, isPace_iff.mpr pace, refuse_eq]

theorem setPaceRequest_bound {k : SlotNo} (bound : ∃ g, (s.slot k).source = .handset g) :
    setPaceRequest tag [byte (k.val + 1), v] s = emit [refusal tag 0x23 .slotBound []] s := by
  simp [setPaceRequest, isHandset_iff.mpr bound, refuse_eq]

theorem wishRequest_notPace {k : SlotNo} (unpaced : ∀ p, (s.slot k).source ≠ .pace p) :
    wishRequest tag [byte (k.val + 1), v] s = emit [refusal tag 0x24 .notPace []] s := by
  have : ¬ (s.slot k).source.isPace = true := fun h => (isPace_iff.mp h).elim unpaced
  simp [wishRequest, this, refuse_eq]

theorem crossoverClearRequest_notFaulted {x : CrossNo} (sound : (s.cross x).state ≠ .fault) :
    crossoverClearRequest tag [byte x.val] s = emit [refusal tag 0x41 .notFaulted []] s := by
  simp [crossoverClearRequest, sound, refuse_eq]

theorem crossoverClearRequest_zoneBusy {x : CrossNo} (fault : (s.cross x).state = .fault)
    (busy : (s.cross x).zone ≠ []) :
    crossoverClearRequest tag [byte x.val] s = emit [refusal tag 0x41 .zoneBusy []] s := by
  simp [crossoverClearRequest, fault, busy, refuse_eq]

theorem trackRequest_cutoff (cut : s.track = .cutoff) :
    trackRequest tag [v, w] s = emit [refusal tag 0x50 .cutoffActive []] s := by
  simp [trackRequest, cut, refuse_eq]

theorem clearCutoffRequest_lineActive (asserted : s.faultLine = true) :
    clearCutoffRequest tag [] s = emit [refusal tag 0x51 .lineActive []] s := by
  simp [clearCutoffRequest, asserted, refuse_eq]

theorem clearCutoffRequest_notCutoff (released : s.faultLine = false) (running : s.track ≠ .cutoff) :
    clearCutoffRequest tag [] s = emit [refusal tag 0x51 .notCutoff []] s := by
  simp [clearCutoffRequest, released, running, refuse_eq]

/-- Settles O16: a request with room for its reply is taken, and each refusal is its own lemma above. -/
theorem ownRefusalsChangeNothingElse : Obligations.OwnRefusalsChangeNothingElse := by
  unfold Obligations.OwnRefusalsChangeNothingElse
  intro s tag v w h k x room
  refine ⟨fun free => ⟨?_, ?_⟩, fun enrolled pace => ?_, fun bound => ?_, fun unpaced => ?_,
    fun sound => ?_, fun fault busy => ?_, fun cut => ?_, fun asserted => ?_, fun released running => ?_⟩
  · exact request_taken room (forgetRequest_free tag free)
  · exact request_taken room (bindRequest_free tag k free)
  · exact request_taken room (bindRequest_pace tag enrolled pace)
  · exact request_taken room (setPaceRequest_bound tag v bound)
  · exact request_taken room (wishRequest_notPace tag v unpaced)
  · exact request_taken room (crossoverClearRequest_notFaulted tag sound)
  · exact request_taken room (crossoverClearRequest_zoneBusy tag fault busy)
  · exact request_taken room (trackRequest_cutoff tag v w cut)
  · exact request_taken room (clearCutoffRequest_lineActive tag asserted)
  · exact request_taken room (clearCutoffRequest_notCutoff tag released running)

/-! ### TRACK and LINK-SET -/

theorem clamp_zero (hi n : Nat) : clamp 0 hi n = min n hi := by simp [clamp]

/-- TRACK out of CUTOFF stores both values and replies them as stored (R136). -/
theorem trackRequest_stores (state cap : Byte) (running : s.track ≠ .cutoff) :
    trackRequest tag [state, cap] s =
      emit [okReply tag 0x50 [if state = 0 then 1 else 0, byte (min cap.toNat 63)]]
        { s with track := if state = 0 then .run else .halt, cap := min cap.toNat 63 } := by
  have code : byte (trackArg state).code = if state = 0 then 1 else 0 := by
    unfold trackArg; split <;> rfl
  simp only [trackRequest, if_neg running, answer_eq, code, clamp_zero]
  rfl

/-- LINK-SET stores the three limits and replies them as stored (R155). -/
theorem linkSetRequest_stores (sHi sLo rHi rLo length : Byte) :
    linkSetRequest tag [sHi, sLo, rHi, rLo, length] s =
      emit [okReply tag 0x60 (bytes16 (clamp 50 2000 (be16 sHi sLo)) ++
        [byte (clamp 0 255 (be16 rHi rLo)), byte (clamp 1 60 length.toNat)])]
        { s with
          silenceLimit := clamp 50 2000 (be16 sHi sLo), releaseLimit := clamp 0 255 (be16 rHi rLo)
          windowLength := clamp 1 60 length.toNat } := rfl

/-- Settles O29: both requests are taken with room for their reply, and store the values as clamped. -/
theorem trackAndLinkSetStoreTheirValues : Obligations.TrackAndLinkSetStoreTheirValues := by
  unfold Obligations.TrackAndLinkSetStoreTheirValues
  refine ⟨fun s tag state cap room running => ?_, fun s tag sHi sLo rHi rLo w room => ?_⟩
  · exact request_taken room (trackRequest_stores tag state cap running)
  · exact ⟨_, _, _, request_taken room (linkSetRequest_stores tag sHi sLo rHi rLo w), rfl, clamp_zero 255 _, rfl⟩

/-! ### A deadline that is not reached (R11, R13, R14, R46, R82, R84, R94) -/

/-- Settles O40: each expiry reads its deadline and finds none, or one that `reached` denies. -/
theorem aDeadlineNotReachedDoesNothing : Obligations.ADeadlineNotReachedDoesNothing := by
  unfold Obligations.ADeadlineNotReachedDoesNothing
  intro s h x i
  refine ⟨fun early => ?silence, fun early => ?release, fun early => ?window, fun early => ?clear,
    fun early => ?confirm, fun early => ?guard⟩
  case silence =>
    simp only [exec, execSilenceExpiry]
    split
    · rename_i e he
      split
      · rename_i silence window hp
        simp [not_reached_iff.mpr (early e silence window he hp)]
      · rfl
    · rfl
  case release =>
    simp only [exec, execReleaseExpiry]
    split
    · rename_i e he
      split
      · rename_i release hp
        simp [not_reached_iff.mpr (early e release he hp)]
      · rfl
      · rfl
    · rfl
  case window =>
    simp only [exec, execWindowExpiry]
    split
    · rename_i w hw
      have hentry : w.entry = h := by simpa using List.find?_some hw
      simp [not_reached_iff.mpr (early w (List.mem_of_find?_eq_some hw) hentry)]
    · rfl
  case clear =>
    simp only [exec, execClearDeadlineExpiry]
    split
    · rename_i e he
      simp [not_reached_iff.mpr (early e he)]
    · rfl
  case confirm =>
    simp only [exec, execConfirmDeadlineExpiry]
    split
    · rename_i kind deadline hs
      simp [not_reached_iff.mpr (early kind deadline hs)]
    · rfl
    · rfl
    · rfl
  case guard =>
    have idle : ((s.cross x).guardRunning &&
        deadTimePassed s.time (s.cross x).settled (s.cross x).config.dead) = false := by
      rcases early with stopped | early
      · simp [stopped]
      · simp only [deadTimePassed, decide_eq_false (Nat.not_le.mpr early), Bool.and_false]
    simp [exec, execGuardElapse, idle]

end Sys2Proof.Machine
end

section
/-! The two resets: what a power-on reset leaves, that it meets every invariant, and what RESTART keeps. -/

namespace Sys2Proof.Machine

/-! ### Power-on (R16, R34, R52, R66, R89, R110, R141, R157) -/

section
variable (asserted : Bool) (s : State)

/-- The state a power-on reset leaves with the fault line at a level, as POWER_ON_RESET writes it. -/
def poweredOn : State :=
  { State.reset with
    track := if asserted then .cutoff else .halt
    faultLine := asserted
    pending := s.pending
    freeDraws := s.freeDraws }

theorem execPowerOnReset_eq : execPowerOnReset asserted s = .next (poweredOn asserted s) := rfl

/-- The reset state is what a power-on reset leaves with the line released (log entry 8). -/
theorem reset_eq_poweredOn : State.reset = poweredOn false State.reset := rfl

@[simp] theorem poweredOn_entry (h : EntryNo) : (poweredOn asserted s).entry h = none :=
  Vector.getElem_replicate h.isLt

@[simp] theorem poweredOn_slot (k : SlotNo) : (poweredOn asserted s).slot k = .default :=
  Vector.getElem_replicate k.isLt

@[simp] theorem poweredOn_code (k : SlotNo) : (poweredOn asserted s).code k = none :=
  Vector.getElem_replicate k.isLt

@[simp] theorem poweredOn_cross (x : CrossNo) : (poweredOn asserted s).cross x = .default :=
  Vector.getElem_replicate x.isLt

/-! ### The invariants after power-on -/

theorem poweredOn_linkInv : LinkInv (poweredOn asserted s) := by
  simp [LinkInv, poweredOn, State.reset]

theorem poweredOn_receiveInv : ReceiveInv (poweredOn asserted s) := ⟨.inl rfl, .inl rfl⟩

theorem poweredOn_bindingInv : BindingInv (poweredOn asserted s) := by
  refine ⟨⟨Nat.zero_le 4, List.nodup_nil, fun h => ?_⟩, fun h k => ?_, fun k => ?_, fun k _ => ?_⟩
  · rw [poweredOn_entry]; rfl
  · simp [Slot.default]
  · simp [Slot.default]
  · simp [Slot.default]

theorem poweredOn_radioInv : RadioInv (poweredOn asserted s) :=
  ⟨fun g _ _ => .inl (by simp), fun h => by simp⟩

theorem poweredOn_beaconInv : BeaconInv (poweredOn asserted s) :=
  ⟨by simp [poweredOn, State.reset], fun k c hc => by simp at hc, fun j k _ a ha => by simp at ha⟩

theorem poweredOn_rangeInv : RangeInv (poweredOn asserted s) := by
  refine ⟨fun k => ?_, fun k c hc => ?_, ?_, ?_, fun x => ?_, fun d hd => ?_, ?_⟩
  · rw [poweredOn_slot]; decide
  · simp at hc
  · simp [poweredOn, State.reset]
  · simp [poweredOn, State.reset, Holding.default]
  · rw [poweredOn_cross]; decide
  · simp [poweredOn, State.reset] at hd
  · simp [poweredOn, State.reset]

theorem poweredOn_crossInv : CrossInv (poweredOn asserted s) := by
  have commands : (poweredOn asserted s).commands = [] := rfl
  refine ⟨fun x => ?_, ⟨by simp [commands], by simp [commands], by simp [commands], fun x hx => ?_,
    fun x hx => ?_⟩, fun _ x => .inl ?_, fun x hx => ?_, fun hl => ?_⟩
  · rw [poweredOn_cross]; decide
  · rw [poweredOn_cross] at hx; exact absurd hx (by decide)
  · rw [poweredOn_cross] at hx; exact absurd hx (by decide)
  · rw [poweredOn_cross]; rfl
  · rw [poweredOn_cross] at hx; exact absurd hx (by decide)
  · exact if_pos (show asserted = true from hl)

/-- Settles O33: each value is read off the state the reset writes. -/
theorem powerOnLeavesTheStatedValues : Obligations.PowerOnLeavesTheStatedValues := by
  unfold Obligations.PowerOnLeavesTheStatedValues
  intro s asserted
  exact ⟨_, execPowerOnReset_eq asserted s, poweredOn_entry asserted s, rfl, poweredOn_slot asserted s,
    rfl, poweredOn_code asserted s, rfl, poweredOn_cross asserted s, rfl, rfl, rfl, rfl, rfl, rfl, rfl, rfl, rfl,
    rfl, rfl, rfl, rfl, rfl, rfl, rfl, rfl, rfl⟩

/-- Settles O3: the invariants hold after a power-on reset at either level, and State.reset is one of those states. -/
theorem powerOnStateMeetsTheInvariants : Obligations.PowerOnStateMeetsTheInvariants := by
  unfold Obligations.PowerOnStateMeetsTheInvariants
  have invariants (asserted : Bool) (s : State) :
      LinkInv (poweredOn asserted s) ∧ BindingInv (poweredOn asserted s) ∧ RadioInv (poweredOn asserted s) ∧
      BeaconInv (poweredOn asserted s) ∧ RangeInv (poweredOn asserted s) ∧ CrossInv (poweredOn asserted s) ∧
      ReceiveInv (poweredOn asserted s) :=
    ⟨poweredOn_linkInv asserted s, poweredOn_bindingInv asserted s, poweredOn_radioInv asserted s,
      poweredOn_beaconInv asserted s, poweredOn_rangeInv asserted s, poweredOn_crossInv asserted s,
      poweredOn_receiveInv asserted s⟩
  refine ⟨reset_eq_poweredOn ▸ invariants false State.reset, fun s t asserted ht => ?_⟩
  obtain rfl : poweredOn asserted s = t := by simpa [exec, execPowerOnReset_eq] using ht
  exact invariants asserted s
end

end Sys2Proof.Machine
end

section
/-! RESTART (R111, R148, R156): RETURNs decided for a list of crossovers in order, and the state RESTART leaves. -/

namespace Sys2Proof.Machine

/-! ### RETURNs decided one crossover after another (R96, R111) -/

/-- The command a RETURN of crossover `x` queues. -/
def State.returnOf (s : State) (x : CrossNo) : SectionCommand := ⟨x, .returning, (s.cross x).config.pulse⟩

/-- The record of crossover `x` with its RETURN decided, in the queue or OWED (R96). -/
def State.returned (s : State) (x : CrossNo) (queued : Prop) [Decidable queued] : Crossover :=
  { s.cross x with
    state := .returning
    status := if queued then .queued .returning else .owed (s.cross x).config.pulse }

variable (s : State)

/-- A RETURN decided: at the tail of the queue where it has room, and OWED where it has not (R96, R101). -/
theorem decideReturn_eq (x : CrossNo) :
    decideReturn x s =
      ({ s with commands := s.commands ++ ([x].take (8 - s.commands.length)).map s.returnOf }.setCross x
        (s.returned x (x ∈ [x].take (8 - s.commands.length)))) := by
  rcases Nat.lt_or_ge s.commands.length 8 with room | full
  · rw [decideReturn_room s x room, List.take_of_length_le (by simp; omega)]
    simp [State.returned, State.returnOf]
  · rw [decideReturn_full s x full, Nat.sub_eq_zero_of_le full]
    simp [State.returned]

/-- A RETURN decided leaves the other records. -/
theorem decideReturn_cross_of_ne {x y : CrossNo} (h : x ≠ y) : (decideReturn x s).cross y = s.cross y := by
  rw [decideReturn_eq, cross_setCross, if_neg h]
  rfl

/-- A RETURN decided keeps the configurations. -/
theorem decideReturn_config (x y : CrossNo) :
    ((decideReturn x s).cross y).config = (s.cross y).config := by
  by_cases h : x = y
  · subst h; rw [decideReturn_eq, cross_setCross_self]; rfl
  · rw [decideReturn_cross_of_ne s h]

/-- What one RETURN takes of the room is not left for those that follow. -/
theorem take_room_cons (x : CrossNo) (xs : List CrossNo) :
    (x :: xs).take (8 - s.commands.length) =
      [x].take (8 - s.commands.length) ++ xs.take (8 - (decideReturn x s).commands.length) := by
  rw [decideReturn_eq]
  rcases h : 8 - s.commands.length with _ | room
  · simp [h]
  · simp; omega

/-- RETURNs decided for distinct crossovers in order: as many as find room are QUEUED, the rest OWED, and the other
records stay (R96, R101). -/
theorem foldl_decideReturn {xs : List CrossNo} (nodup : xs.Nodup) :
    let t := xs.foldl (fun s x => decideReturn x s) s
    let queued := xs.take (8 - s.commands.length)
    t = { s with commands := s.commands ++ queued.map s.returnOf, crossovers := t.crossovers } ∧
    ∀ y, t.cross y = if y ∈ xs then s.returned y (y ∈ queued) else s.cross y := by
  induction xs generalizing s with
  | nil => simp
  | cons x xs ih =>
    obtain ⟨hx, nodup⟩ := List.nodup_cons.mp nodup
    obtain ⟨frame, records⟩ := ih (decideReturn x s) nodup
    have other : ∀ y ∈ xs, (decideReturn x s).cross y = s.cross y := fun y hy =>
      decideReturn_cross_of_ne s (by rintro rfl; exact hx hy)
    have split := take_room_cons s x xs
    have later_mem : ∀ y ∈ xs.take (8 - (decideReturn x s).commands.length), y ∈ xs :=
      fun y hy => List.mem_of_mem_take hy
    simp only [List.foldl_cons]
    generalize xs.foldl (fun s x => decideReturn x s) (decideReturn x s) = t at frame records ⊢
    generalize xs.take (8 - (decideReturn x s).commands.length) = later at *
    have returns : later.map (decideReturn x s).returnOf = later.map s.returnOf :=
      List.map_congr_left fun y hy => by rw [State.returnOf, other y (later_mem y hy)]; rfl
    have first : (decideReturn x s).cross x = s.returned x (x ∈ [x].take (8 - s.commands.length)) := by
      rw [decideReturn_eq, cross_setCross_self]
    refine ⟨?_, fun y => ?_⟩
    · rw [returns, decideReturn_eq] at frame
      rw [split, List.map_append, ← List.append_assoc]
      exact frame
    · rw [records y, split]
      by_cases hy : y = x
      · subst hy
        have : y ∉ later := fun h => hx (later_mem y h)
        simp [hx, first, this]
      · by_cases hxs : y ∈ xs
        · have : y ∉ [x].take (8 - s.commands.length) := fun h => hy (by simpa using List.mem_of_mem_take h)
          simp [hxs, State.returned, other y hxs, this]
        · simp [hy, hxs, decideReturn_cross_of_ne s (Ne.symm hy)]

/-- The enabled crossovers have their RETURNs decided in number order (R111 ⑤); no configuration changes on the
way. -/
theorem foldl_resyncEnabled (xs : List CrossNo) :
    xs.foldl resyncEnabled s =
      (xs.filter fun x => (s.cross x).config.enabled).foldl (fun s x => decideReturn x s) s := by
  induction xs generalizing s with
  | nil => rfl
  | cons x xs ih =>
    rw [List.foldl_cons, ih, List.filter_cons]
    by_cases h : (s.cross x).config.enabled = true
    · simp [resyncEnabled, h, decideReturn_config]
    · simp [resyncEnabled, h]

/-! ### RESTART -/

/-- What RESTART does outside the crossovers and before its notice (R16, R35, R52, R128, R148). -/
def forgotten : State :=
  { s with
    resetCause := .restart, time := 0, track := if s.faultLine then .cutoff else .halt
    handsets := Vector.replicate 12 none, windows := [], slots := mapTable Slot.restarted s.slots
    holding := .default, sectionRx := [], handRx := []
    roundNumber := 0, framePos := 0, railFresh := true
    out := ⟨[], [], [], false, s.out.transmitter.restarted⟩ }

theorem restartPart_eq :
    restartPart s = queueNotice (.started .restart) (restartCrossovers (forgotten s)) := rfl

theorem forgotten_entry (h : EntryNo) : (forgotten s).entry h = none := Vector.getElem_replicate h.isLt

theorem forgotten_slot (k : SlotNo) : (forgotten s).slot k = (s.slot k).restarted :=
  mapTable_getElem _ _ _ k.isLt

/-- The crossovers with every command, zone and passage dropped (R111 ① to ④). -/
def zonesForgotten : State :=
  { s with commands := [], crossovers := mapTable (Crossover.restarted (s.track == .cutoff)) s.crossovers }

theorem zonesForgotten_cross (x : CrossNo) :
    (zonesForgotten s).cross x = (s.cross x).restarted (s.track == .cutoff) := mapTable_getElem _ _ _ x.isLt

theorem restartCrossovers_cutoff (cut : s.track = .cutoff) : restartCrossovers s = zonesForgotten s := if_pos cut

/-- Out of CUTOFF the enabled crossovers have their RETURNs decided (R111 ⑤). -/
theorem restartCrossovers_running (running : s.track ≠ .cutoff) :
    restartCrossovers s = ((List.finRange 16).filter fun x => (s.cross x).config.enabled).foldl
      (fun s x => decideReturn x s) (zonesForgotten s) := by
  have kept : (fun x => ((zonesForgotten s).cross x).config.enabled) = fun x => (s.cross x).config.enabled :=
    funext fun x => by rw [zonesForgotten_cross]; rfl
  rw [← kept, ← foldl_resyncEnabled]
  exact if_neg running

/-- The commands and records RESTART leaves: dropping every command leaves room for eight RETURNs, and while the track
is cut off none is decided (R111). -/
theorem restartCrossovers_eq {back : List CrossNo}
    (hback : back = (List.finRange 16).filter fun x => (s.cross x).config.enabled) :
    restartCrossovers s = { s with
      commands := if s.track = .cutoff then [] else (back.take 8).map s.returnOf
      crossovers := (restartCrossovers s).crossovers } ∧
    ∀ x, (restartCrossovers s).cross x = { s.cross x with
      staged := none, zone := [], last := none, lastNew := false, previous := none
      state := if (s.cross x).config.enabled = false then .disabled
        else if s.track = .cutoff then .dark else .returning
      status := if (s.cross x).config.enabled = false ∨ s.track = .cutoff then .none
        else if x ∈ back.take 8 then .queued .returning else .owed (s.cross x).config.pulse } := by
  by_cases cut : s.track = .cutoff
  · rw [restartCrossovers_cutoff s cut]
    refine ⟨by rw [if_pos cut]; rfl, fun x => ?_⟩
    rw [zonesForgotten_cross]
    cases h : (s.cross x).config.enabled <;> simp [Crossover.restarted, h, cut]
  · rw [restartCrossovers_running s cut, ← hback]
    obtain ⟨frame, records⟩ := foldl_decideReturn (zonesForgotten s) (xs := back)
      (hback ▸ (List.nodup_finRange 16).filter _)
    have returns : (zonesForgotten s).returnOf = s.returnOf :=
      funext fun x => by rw [State.returnOf, zonesForgotten_cross]; rfl
    refine ⟨?_, fun x => ?_⟩
    · rw [returns] at frame
      rw [if_neg cut]
      exact frame
    · have mem : x ∈ back ↔ (s.cross x).config.enabled = true := by simp [hback]
      rw [records x, zonesForgotten_cross]
      have empty : (zonesForgotten s).commands = [] := rfl
      cases h : (s.cross x).config.enabled
      · simp [mem, h, Crossover.restarted]
      · simp [mem, h, cut, empty, State.returned, zonesForgotten_cross, Crossover.restarted]

/-- After RESTART the transmitter finishes the frame on the line, and a free one starts the notice (R145, R148). -/
theorem forgotten_notice (body : NoticeBody) :
    (forgotten s).out.notice body 0 = match s.out.transmitter with
      | .free => ⟨[], [], [], false, .sending (.notice ⟨body, 0, false⟩) []⟩
      | .sending frame _ => ⟨[], [], [⟨body, 0, false⟩], false, .sending frame []⟩ := by
  unfold forgotten
  cases s.out.transmitter <;> rfl

/-- Settles O32: what RESTART forgets outside the crossovers, their resynchronisation, and then its notice. -/
theorem restartKeepsWhatTheConsoleLoaded : Obligations.RestartKeepsWhatTheConsoleLoaded := by
  unfold Obligations.RestartKeepsWhatTheConsoleLoaded
  intro s tag back room hback
  have cut : (forgotten s.handTaken).track = .cutoff ↔ s.faultLine = true := by
    cases h : s.faultLine <;> simp [forgotten, h]
  have taken : exec (.restart tag []) s = .next (queueNotice (.started .restart)
      (restartCrossovers (forgotten s.handTaken))) := request_taken room (restartPart_eq _)
  have notice := forgotten_notice s.handTaken (.started .restart)
  obtain ⟨frame, records⟩ := restartCrossovers_eq (forgotten s.handTaken) hback
  simp only [cut] at frame records
  generalize restartCrossovers (forgotten s.handTaken) = u at taken frame records
  generalize u.crossovers = v at frame
  subst frame
  refine ⟨_, taken, ?_, forgotten_entry s, fun k => (forgotten_slot s k).trans ?_, records⟩
  · rw [queueNotice, show (forgotten s.handTaken).time = 0 from rfl, notice]
    cases s.out.transmitter <;> rfl
  · unfold Slot.restarted
    cases (s.slot k).source <;> rfl

end Sys2Proof.Machine
end

section
/-! Handsets, their slots and their windows: an operation at the slot an entry is bound to, a handset released or lost,
a sample taken (Chapters 1 to 3). -/

namespace Sys2Proof.Machine

variable (s : State)

/-! ### The slot an entry is bound to -/

/-- The record of the bound slot, if there is one, replaced by `f` of it. -/
def atSlot (bound : Option SlotNo) (f : Slot → Slot) (s : State) : State :=
  match bound with
  | some k => s.setSlot k (f (s.slot k))
  | none => s

@[simp] theorem atSlot_none (f : Slot → Slot) : atSlot none f s = s := rfl

@[simp] theorem atSlot_some (k : SlotNo) (f : Slot → Slot) :
    atSlot (some k) f s = s.setSlot k (f (s.slot k)) := rfl

theorem atSlot_slot (bound : Option SlotNo) (f : Slot → Slot) (k : SlotNo) :
    (atSlot bound f s).slot k = if bound = some k then f (s.slot k) else s.slot k := by
  cases bound with
  | none => simp
  | some j =>
    by_cases h : j = k
    · subst h; simp
    · simp [slot_setSlot, h]

/-- Only the slot table is touched. -/
theorem atSlot_frame (bound : Option SlotNo) (f : Slot → Slot) :
    atSlot bound f s = { s with slots := (atSlot bound f s).slots } := by
  cases bound <;> rfl

@[simp] theorem atSlot_entry (bound : Option SlotNo) (f : Slot → Slot) (h : EntryNo) :
    (atSlot bound f s).entry h = s.entry h := by
  cases bound <;> rfl

theorem atSlot_setEntry (bound : Option SlotNo) (f : Slot → Slot) (h : EntryNo) (e : Entry) :
    atSlot bound f (s.setEntry h e) = (atSlot bound f s).setEntry h e := by
  cases bound <;> rfl

theorem atSlot_emit (bound : Option SlotNo) (f : Slot → Slot) (o : List Output) :
    atSlot bound f (emit o s) = emit o (atSlot bound f s) := by
  cases bound <;> rfl

/-! ### Entries -/

theorem setSlot_setEntry (k : SlotNo) (r : Slot) (h : EntryNo) (e : Entry) :
    (s.setEntry h e).setSlot k r = (s.setSlot k r).setEntry h e := rfl

/-- The open window field apart, an entry stays as it was. -/
theorem withWindow_some (e : Enrolled) (w : Bool) : ∃ e' : Enrolled,
    Entry.withWindow (some e) w = some e' ∧ e'.radioId = e.radioId ∧ e'.bound = e.bound := by
  rcases e with ⟨id, m, b, _ | _⟩ <;> exact ⟨_, rfl, rfl, rfl⟩

/-- An entry without a bound slot has none to lose. -/
theorem withBound_boundSlot_self (e : Entry) : e.withBound e.boundSlot = e := by
  rcases e with _ | e <;> rfl

/-! ### A handset released (R13, R14, R28, R29) -/

/-- The binding of an entry broken: its slot freed and its bound slot absent (R28). -/
theorem breakBindingOf_eq (h : EntryNo) :
    breakBindingOf h s =
      (atSlot (s.entry h).boundSlot Slot.freed s).setEntry h ((s.entry h).withBound none) := by
  unfold breakBindingOf
  cases hb : (s.entry h).boundSlot with
  | some k => exact breakBinding_eq s h k
  | none =>
    have : (s.entry h).withBound none = s.entry h := hb ▸ withBound_boundSlot_self _
    rw [this, atSlot_none, setEntry_entry]

/-- A handset leaves the table (R13, R14): its slot is freed, RELEASED and HANDSET_RELEASED are handed on, and its
entry is FREE. -/
theorem releaseHandset_eq {h : EntryNo} {e : Enrolled} (he : s.entry h = some e) :
    releaseHandset h s = emit [.echo e.radioId .released, .notice (.handsetReleased h)]
      ((atSlot e.bound Slot.freed s).setEntry h none) := by
  have echo : echoOutput (breakBindingOf h s) h .released = [.echo e.radioId .released] := by
    rw [breakBindingOf_eq, he]
    simp [echoOutput]
  simp only [releaseHandset, echoTo_eq, queueNotice_eq, echo, emit_emit, emit_setEntry]
  rw [breakBindingOf_eq, he, setEntry_setEntry, boundSlot_some]
  rfl

/-- A handset's slot is unbound: its window closes SUPERSEDED and RELEASED goes to it (R29 ①). -/
theorem unbindSlot_handset {h : EntryNo} {k : SlotNo} (hs : (s.slot k).source = .handset h) :
    unbindSlot k s = emit ((if (s.entry h).window then closeOutputs s h .superseded else []) ++
        echoOutput s h .released)
      (({ s with windows := if (s.entry h).window then otherWindows h s else s.windows }.setSlot k
        (s.slot k).freed).setEntry h (((s.entry h).withWindow false).withBound none)) := by
  simp only [unbindSlot, hs, closeIfOpen_eq s (reason := .superseded) (by decide), emit_breakBinding, echoTo_eq,
    emit_emit, echoOutput_emit]
  rw [breakBinding_eq, setSlot_setEntry, setEntry_setEntry, entry_setEntry_self,
    echoOutput_of_radio (s := s) (by simp)]
  rfl

/-- A handset is forgotten (R14): its window closes SUPERSEDED, and it leaves the table. -/
theorem releaseHandset_closeIfOpen {h : EntryNo} {e : Enrolled} (he : s.entry h = some e) :
    releaseHandset h (closeIfOpen h .superseded s) =
      emit ((if (s.entry h).window then closeOutputs s h .superseded else []) ++
          [.echo e.radioId .released, .notice (.handsetReleased h)])
        ((atSlot e.bound Slot.freed { s with
          windows := if (s.entry h).window then otherWindows h s else s.windows }).setEntry h none) := by
  obtain ⟨e', he', radio, bound⟩ := withWindow_some e false
  rw [closeIfOpen_eq s (by decide), releaseHandset_eq _ (e := e') (by simp [he, he']), atSlot_emit, atSlot_setEntry,
    emit_setEntry, emit_emit, setEntry_setEntry, radio, bound]

/-- Settles O23: UNBIND by the slot's source, FORGET as a window closed and a handset released, and the release
deadline as a handset released. -/
theorem unbindForgetAndReleaseFreeTheSlot : Obligations.UnbindForgetAndReleaseFreeTheSlot := by
  unfold Obligations.UnbindForgetAndReleaseFreeTheSlot
  refine ⟨fun s tag k room => ?_, fun s tag h e room he => ?_, fun s h e release he hp due => ?_⟩
  · have unbound : exec (.unbind tag [byte (k.val + 1)]) s =
        .next (emit [okReply tag 0x21 []] (unbindSlot k s.handTaken)) :=
      request_taken room (by simp [unbindRequest, answer_eq])
    refine ⟨fun h hs => ?handset, fun p hs => ?pace, fun hs => ?none⟩
    case handset =>
      rw [unbound, unbindSlot_handset s.handTaken hs, emit_emit]
      rfl
    case pace => simp [unbound, unbindSlot, hs]
    case none => simp [unbound, unbindSlot, hs]
  · have forgot : exec (.forget tag [byte h.val]) s = .next (emit [okReply tag 0x22 []]
        (releaseHandset h (closeIfOpen h .superseded s.handTaken))) :=
      request_taken room (by simp [forgetRequest, answer_eq, he])
    rw [forgot, releaseHandset_closeIfOpen s.handTaken he, emit_emit, List.append_assoc]
    exact ⟨_, rfl, by rw [atSlot_frame]; rfl, fun j => atSlot_slot _ _ _ j⟩
  · have expired : exec (.releaseExpiry h) s = .next (releaseHandset h s) := by
      simp [exec, execReleaseExpiry, he, hp, reached_iff.mpr due]
    rw [expired, releaseHandset_eq s he]
    exact ⟨_, rfl, by rw [atSlot_frame]; rfl, fun j => atSlot_slot _ _ _ j⟩

end Sys2Proof.Machine
end

section
/-! Silence and samples: what the loss of a handset leaves, and what the Handset Table makes of a sample (R4 to R11,
R38, R39). -/

namespace Sys2Proof.Machine

variable (s : State)

/-! ### A handset lost (R10) -/

/-- A slot record as its handset becomes LOST: in failsafe, and disarmed under HOLD (R10 ①, ②). -/
def Slot.lost (r : Slot) : Slot :=
  { r with failsafe := true, wish := if r.active.policy = .hold then false else r.wish }

/-- Failsafe and the HOLD wish at the bound slot are one replacement of its record. -/
theorem setFailsafe_hold (k : SlotNo) :
    (if ((setFailsafe k true s).slot k).active.policy = .hold then setWish k false (setFailsafe k true s)
      else setFailsafe k true s) = s.setSlot k (s.slot k).lost := by
  simp only [setFailsafe, setWish, slot_setSlot_self, setSlot_setSlot, Slot.lost]
  split <;> simp_all

/-- A window's outputs are addressed by the radio ID of the entry alone. -/
theorem closeOutputs_of_radio {s t : State} {h : EntryNo} (he : (t.entry h).radio = (s.entry h).radio)
    (reason : CloseReason) : closeOutputs t h reason = closeOutputs s h reason := by
  rw [closeOutputs, closeOutputs, echoOutput_of_radio he]

/-- The state the loss of a handset leaves but for what is handed on: its slot in failsafe, its window gone, and its
entry LOST with a release deadline by the release limit (R10). -/
def lostFrom (s : State) (h : EntryNo) (e : Enrolled) (window : Bool) : State :=
  (atSlot e.bound Slot.lost { s with windows := if window then otherWindows h s else s.windows }).setEntry h (some
    { e with phase := .lost (if s.releaseLimit = 0 then none else some (s.after (1000 * s.releaseLimit))) })

theorem lostFrom_slot (h : EntryNo) (e : Enrolled) (window : Bool) (k : SlotNo) :
    (lostFrom s h e window).slot k = if e.bound = some k then (s.slot k).lost else s.slot k := atSlot_slot _ _ _ k

theorem lostFrom_radio {h : EntryNo} {e : Enrolled} (he : s.entry h = some e) (window : Bool) (g : EntryNo) :
    ((lostFrom s h e window).entry g).radio = (s.entry g).radio := by
  rw [lostFrom, entry_setEntry]
  split
  · rename_i hg
    rw [← hg, he]
    rfl
  · rw [atSlot_entry]
    rfl

/-- A handset becomes LOST (R10). -/
theorem loseHandset_eq {h : EntryNo} {e : Enrolled} (he : s.entry h = some e) (window : Bool) :
    loseHandset h e window s =
      emit ((if window then closeOutputs s h .lost else []) ++ [.notice (.handsetLost h)])
        (lostFrom s h e window) := by
  have start : loseHandset h e window s =
      let lost := atSlot e.bound Slot.lost (s.setEntry h (some { e with phase := .lost none }))
      let closed := if window then closeWindow h .lost lost else lost
      let release := if closed.releaseLimit = 0 then none else some (closed.after (1000 * closed.releaseLimit))
      queueNotice (.handsetLost h) (closed.setEntry h (some { e with phase := .lost release })) := by
    unfold loseHandset
    cases e.bound with
    | none => rfl
    | some k => simp only [setFailsafe_hold]; rfl
  rw [start, atSlot_setEntry, lostFrom]
  cases window with
  | false =>
    simp only [Bool.false_eq_true, if_false, setEntry_setEntry]
    cases e.bound <;> rfl
  | true =>
    simp only [if_true, closeWindow_noticed _ (reason := .lost) (by decide), emit_setEntry, queueNotice_eq, emit_emit]
    rw [closeOutputs_of_radio (s := s) (by simp [he])]
    simp only [State.setEntry, Vector.set_set]
    cases e.bound <;> rfl

/-- The silence deadline of a LIVE entry is taken when it has been reached. -/
theorem exec_silenceExpiry {h : EntryNo} {e : Enrolled} {silence : Time} {window : Bool} (he : s.entry h = some e)
    (hp : e.phase = .live silence window) (due : (s.time - silence).toNat < 2 ^ 31) :
    exec (.silenceExpiry h) s = .next (loseHandset h e window s) := by
  simp [exec, execSilenceExpiry, he, hp, reached_iff.mpr due]

/-- Settles O37: the whole loss is `loseHandset_eq`, and the slots follow the bound slot of the entry. -/
theorem silenceMakesTheEntryLost : Obligations.SilenceMakesTheEntryLost := by
  unfold Obligations.SilenceMakesTheEntryLost
  intro s h e silence window he hp due
  rw [exec_silenceExpiry s he hp due, loseHandset_eq s he]
  exact ⟨_, rfl, by rw [lostFrom, atSlot_frame]; rfl, lostFrom_slot s h e window⟩

/-! ### A sample routed (R3, R143) -/

/-- A radio ID from its two bytes, high byte first (Table 12-2). -/
theorem radioId_ofBytes (hi lo : Byte) : BitVec.ofNat 16 (be16 hi lo) = hi ++ lo := by
  apply BitVec.eq_of_toNat_eq
  rw [BitVec.toNat_append, ← Nat.shiftLeft_add_eq_or_of_lt lo.isLt, Nat.shiftLeft_eq, BitVec.toNat_ofNat]
  have := hi.isLt
  have := lo.isLt
  simp only [be16]
  omega

/-- A payload of another length than 4 is no sample. -/
theorem routeSample_length {payload : List Byte} (h : payload.length ≠ 4) : routeSample payload s = s := by
  unfold routeSample
  split
  · simp at h
  · rfl

/-- Four bytes are a sample of the radio ID they carry, unless that is not valid. -/
theorem routeSample_four {idHi idLo : Byte} {id : RadioId} (hid : id = idHi ++ idLo) (trigger flags : Byte) :
    routeSample [idHi, idLo, trigger, flags] s =
      if id = 0x0000 ∨ id = 0xFFFF then s else takeSample id (sampleArgs trigger flags) s := by
  rw [hid, ← radioId_ofBytes]
  rfl

/-- A sample of an entry's radio ID is that entry's. -/
theorem exec_sample_known {idHi idLo : Byte} (trigger flags : Byte) {h : EntryNo} {e : Enrolled} (inv : RadioInv s)
    (he : s.entry h = some e) (hid : e.radioId = idHi ++ idLo) :
    exec (.sample [idHi, idLo, trigger, flags]) s =
      .next (knownSample h e (sampleArgs trigger flags) s.handTaken) := by
  have valid := inv.2 h
  have found : s.handTaken.findEntry e.radioId = some h := findEntry_some (s := s.handTaken) inv he
  rw [he, radio_some] at valid
  simp only [exec, execSample, routeSample_four _ hid]
  rw [if_neg (by simpa using valid), takeSample, found]
  simp only [handTaken_entry, he]

/-! ### A PAIR press (R8, R38, R39) -/

/-- What a PAIR press, or none, comes to at an entry whose open window field is `field`, with a window in the list or
none: the field and the list after it, and what is handed on. -/
def PressOutcome (s : State) (h : EntryNo) (id : RadioId) (press held field : Bool) (field' : Bool)
    (windows' : List Window) (outputs : List Output) : Prop :=
  (press = false → field' = field ∧ windows' = s.windows ∧ outputs = []) ∧
  (press = true → held = true → field' = false ∧ windows' = otherWindows h s ∧
    outputs = [.echo id (.windowClosed .cancelled), .notice (.windowClosed h .cancelled)]) ∧
  (press = true → held = false → s.windows.length < 4 → field' = true ∧
    windows' = s.windows ++ [(⟨h, s.after (1000 * s.windowLength)⟩ : Window)] ∧
    outputs = [.echo id (.windowOpen s.windowLength), .notice (.windowOpen h)]) ∧
  (press = true → held = false → 4 ≤ s.windows.length → field' = field ∧
    windows' = s.windows ∧ outputs = [.echo id .windowRefused])

/-- The list decides what a press comes to: R38 and R39 turn an open request of an entry with a window, and a cancel
request of one without, into each other. -/
theorem handPair_eq (h : EntryNo) (press field : Bool) :
    handPair h press field s =
      if press then if hasWindow h s then closeWindow h .cancelled s else openWindow h s else s := by
  cases press <;> cases field <;> rfl

/-- A PAIR press of a LIVE entry changes its open window field and the list at most. -/
theorem handPair_taken {h : EntryNo} {e : Enrolled} {silence : Time} {field : Bool} (he : s.entry h = some e)
    (hp : e.phase = .live silence field) (press w : Bool) :
    ∃ field' windows' outputs,
      handPair h press w s = emit outputs
        ({ s with windows := windows' }.setEntry h (some { e with phase := .live silence field' })) ∧
      PressOutcome s h e.radioId press (hasWindow h s) field field' windows' outputs := by
  have same : { e with phase := .live silence field } = e := by rw [← hp]
  have unchanged : ({ s with windows := s.windows } : State).setEntry h (some e) = s := he ▸ setEntry_entry s h
  rw [handPair_eq]
  cases press with
  | false =>
    refine ⟨field, s.windows, [], ?_, by simp [PressOutcome]⟩
    rw [same, unchanged]
    rfl
  | true =>
    cases held : hasWindow h s with
    | true =>
      refine ⟨false, otherWindows h s, closeOutputs s h .cancelled, ?_, ?_⟩
      · simp [closeWindow_noticed, he, withWindow_some_live e silence field false hp]
      · simp [PressOutcome, closeOutputs, echoOutput_some s he]
    | false =>
      rcases Nat.lt_or_ge s.windows.length 4 with room | full
      · refine ⟨true, s.windows ++ [⟨h, s.after (1000 * s.windowLength)⟩],
          [.echo e.radioId (.windowOpen s.windowLength), .notice (.windowOpen h)], ?_, ?_⟩
        · simp [openWindow_room s he room, he, withWindow_some_live e silence field true hp]
        · exact ⟨by simp, by simp, fun _ _ _ => ⟨rfl, rfl, rfl⟩, fun _ _ full => by omega⟩
      · refine ⟨field, s.windows, [.echo e.radioId .windowRefused], ?_, ?_⟩
        · rw [same, unchanged]
          simp [openWindow_full s he full]
        · exact ⟨by simp, by simp, fun _ _ room => by omega, fun _ _ _ => ⟨rfl, rfl, rfl⟩⟩

/-! ### An accepted sample (R7, R9) -/

/-- The slot record of a handset that is heard again: out of failsafe if the entry was LOST (R7 ③). -/
def Slot.revived (wasLost : Bool) (r : Slot) : Slot :=
  { r with failsafe := if wasLost then false else r.failsafe }

/-- The slot record that takes an LC press, or under HOLD the LC state (R9, R24). -/
def Slot.pressed (press lc : Bool) (r : Slot) : Slot :=
  { r with wish := if r.active.policy = .hold then lc else if press then !r.wish else r.wish }

theorem handLc_eq (bound : Option SlotNo) (press lc : Bool) :
    handLc bound press lc s = atSlot bound (Slot.pressed press lc) s := by
  cases bound with
  | none => rfl
  | some k =>
    have kept : s = s.setSlot k { s.slot k with wish := (s.slot k).wish } := (setSlot_slot s k).symm
    rw [atSlot_some, Slot.pressed]
    cases hp : (s.slot k).active.policy with
    | hold => simp [handLc, hp, setWish]
    | single | repeated => cases press <;> simp [handLc, hp, setWish, ← kept]

/-- An accepted sample (R7) is stored, its slot revived, and its PAIR and LC presses handed on. -/
theorem acceptSample_eq (h : EntryNo) (e : Enrolled) (m : Sample) :
    acceptSample h e m s = atSlot e.bound (Slot.pressed (m.lc && !e.sample.lc) m.lc)
      (handPair h (m.pair && !e.sample.pair) (Entry.window (some e))
        (atSlot e.bound (Slot.revived (Entry.isLost (some e))) (s.setEntry h (some
          { e with sample := m, phase := .live (s.after s.silenceLimit) (Entry.window (some e)) })))) := by
  have live : ∀ t : State, atSlot e.bound (Slot.revived false) t = t := by
    intro t
    cases e.bound with
    | none => rfl
    | some k => exact setSlot_slot t k
  obtain ⟨id, old, bound, phase⟩ := e
  cases phase with
  | live silence window => simp only [acceptSample, handLc_eq, Entry.isLost, live]
  | lost release => cases bound <;> simp only [acceptSample, handLc_eq] <;> rfl

/-- The state an accepted sample leaves but for what is handed on: the entry LIVE with the sample stored and the
silence timer restarted, the bound slot's record, and the window list as the PAIR press decides. -/
def heardFrom (s : State) (h : EntryNo) (e : Enrolled) (m : Sample) (field' : Bool) (windows' : List Window) : State :=
  atSlot e.bound (fun r => (r.revived (Entry.isLost (some e))).pressed (m.lc && !e.sample.lc) m.lc)
    ({ s with windows := windows' }.setEntry h (some
      { e with sample := m, phase := .live (s.after s.silenceLimit) field' }))

section
variable (h : EntryNo) (e : Enrolled) (m : Sample) (field' : Bool) (windows' : List Window)

theorem heardFrom_frame : heardFrom s h e m field' windows' =
    { s with
      handsets := (heardFrom s h e m field' windows').handsets
      slots := (heardFrom s h e m field' windows').slots, windows := windows' } := by
  rw [heardFrom, atSlot_frame]
  rfl

theorem heardFrom_entry_self : (heardFrom s h e m field' windows').entry h =
    some { e with sample := m, phase := .live (s.after s.silenceLimit) field' } := by
  simp [heardFrom]

theorem heardFrom_entry_of_ne {g : EntryNo} (hg : g ≠ h) :
    (heardFrom s h e m field' windows').entry g = s.entry g := by
  rw [heardFrom, atSlot_entry, entry_setEntry, if_neg (Ne.symm hg)]
  rfl

theorem heardFrom_slot (k : SlotNo) : (heardFrom s h e m field' windows').slot k =
    if e.bound = some k
      then ((s.slot k).revived (Entry.isLost (some e))).pressed (m.lc && !e.sample.lc) m.lc else s.slot k :=
  atSlot_slot _ _ _ k

end

/-- An accepted sample updates its entry and its slot, and its PAIR press is handed to the Pairing Unit (R7 to R9). -/
theorem acceptSample_taken (h : EntryNo) (e : Enrolled) (m : Sample) :
    ∃ field' windows' outputs,
      acceptSample h e m s = emit outputs (heardFrom s h e m field' windows') ∧
      PressOutcome s h e.radioId (m.pair && !e.sample.pair) (hasWindow h s) (Entry.window (some e)) field' windows'
        outputs := by
  obtain ⟨field', windows', outputs, taken, outcome⟩ := handPair_taken
    (atSlot e.bound (Slot.revived (Entry.isLost (some e))) (s.setEntry h (some
      { e with sample := m, phase := .live (s.after s.silenceLimit) (Entry.window (some e)) })))
    (h := h) (by rw [atSlot_entry, entry_setEntry_self]) rfl (m.pair && !e.sample.pair) (Entry.window (some e))
  refine ⟨field', windows', outputs, ?_, ?_⟩
  · rw [acceptSample_eq, taken, atSlot_emit, heardFrom]
    congr 1
    obtain ⟨id, old, bound, phase⟩ := e
    cases bound <;> simp [State.setEntry, State.setSlot, State.slot]
  · obtain ⟨id, old, bound, phase⟩ := e
    cases bound <;> exact outcome

/-- A sample from a LIVE entry is accepted when its sequence number is new, and any sample from a LOST entry (R6,
R7). -/
theorem knownSample_accepted {e : Enrolled} {m : Sample} (h : EntryNo)
    (fresh : Entry.isLive (some e) = true → m.seq ≠ e.sample.seq) :
    knownSample h e m s = acceptSample h e m s := by
  unfold knownSample
  split
  · rename_i hp
    exact if_neg (fresh (by simp [Entry.isLive, hp]))
  · rfl

/-- Settles O36: the window list agrees with the open window field (R36), so the field decides what a press comes
to. -/
theorem acceptedSampleIsTaken : Obligations.AcceptedSampleIsTaken := by
  unfold Obligations.AcceptedSampleIsTaken
  intro s idHi idLo trigger flags h e m window press lcPress radios windows he hid hm fresh hwindow hpress hlc
  obtain ⟨field', windows', outputs, taken, outcome⟩ := acceptSample_taken s.handTaken h e m
  have held : hasWindow h s = window := hwindow ▸ (windows.2.2 h).symm
  rw [he] at fresh hwindow
  have accepted : exec (.sample [idHi, idLo, trigger, flags]) s =
      .next (emit outputs (heardFrom s.handTaken h e m field' windows')) := by
    rw [exec_sample_known s trigger flags radios he hid]
    subst hm
    exact congrArg _ ((knownSample_accepted s.handTaken h fresh).trans taken)
  refine ⟨_, field', windows', outputs, accepted, heardFrom_frame .., heardFrom_entry_self ..,
    fun g hg => heardFrom_entry_of_ne _ _ _ _ _ _ hg, fun k => ?_, ?_⟩
  · rw [heardFrom_slot, he, hlc]
    rfl
  · rw [← hpress, show hasWindow h s.handTaken = window from held, ← hwindow] at outcome
    obtain ⟨idle, cancelled, opened, refused⟩ := outcome
    exact ⟨idle, cancelled, opened, fun pressed closed full => closed ▸ refused pressed closed full⟩

/-- Settles O35: a duplicate is told by the stored sequence number of a LIVE entry; a LOST entry accepts any sample. -/
theorem duplicateOnlyRestartsTheSilenceTimer : Obligations.DuplicateOnlyRestartsTheSilenceTimer := by
  unfold Obligations.DuplicateOnlyRestartsTheSilenceTimer
  intro s idHi idLo trigger flags h e radios he hid
  rw [exec_sample_known s trigger flags radios he hid]
  refine ⟨fun silence window hp same => ?_, fun release hp => ?_⟩
  · have duplicate : (sampleArgs trigger flags).seq = e.sample.seq := same
    simp only [knownSample, hp, if_pos duplicate]
    rfl
  · obtain ⟨field', windows', outputs, taken, -⟩ :=
      acceptSample_taken s.handTaken h e (sampleArgs trigger flags)
    rw [knownSample_accepted _ h (by simp [Entry.isLive, hp]), taken]
    exact ⟨_, _, rfl, heardFrom_entry_self .., rfl, rfl⟩

/-! ### A sample from an unknown radio ID (R4, R5) -/

/-- A sample of a valid radio ID that no entry holds is an unknown one. -/
theorem exec_sample_unknown {idHi idLo : Byte} (trigger flags : Byte) {id : RadioId} (hid : id = idHi ++ idLo)
    (nonzero : id ≠ 0x0000) (notAll : id ≠ 0xFFFF) (unknown : ∀ g, (s.entry g).radio ≠ some id) :
    exec (.sample [idHi, idLo, trigger, flags]) s =
      .next (unknownSample id (sampleArgs trigger flags) s.handTaken) := by
  have notFound : s.handTaken.findEntry id = none := findEntry_none (s := s.handTaken) unknown
  simp only [exec, execSample, routeSample_four _ hid]
  rw [if_neg (not_or.mpr ⟨nonzero, notAll⟩), takeSample, notFound]

/-- Enrolment of an entry that no window is held for (R4): the entry is LIVE, and its open request is granted or, with
the list full, refused (R38). -/
theorem enrol_eq {h : EntryNo} (unheld : hasWindow h s = false) (id : RadioId) (m : Sample) :
    enrol h id m s = openWindow h (s.setEntry h (some
      { radioId := id, sample := m, bound := none, phase := .live (s.after s.silenceLimit) false })) :=
  if_neg (ne_true_of_eq_false unheld)

/-- Settles O34: a FREE entry has no window in the list (R36), so the open request of an enrolment is one. -/
theorem samplesFromUnknownRadioIds : Obligations.SamplesFromUnknownRadioIds := by
  unfold Obligations.SamplesFromUnknownRadioIds
  refine ⟨?enrolled, fun s => ⟨fun payload hlen => ?length, ?others⟩⟩
  case enrolled =>
    intro s idHi idLo trigger flags id m h windows hid nonzero notAll hm pair unknown free least
    have held : hasWindow h s.handTaken = false := by
      have : (s.entry h).window = hasWindow h s := windows.2.2 h
      rw [free] at this
      exact this.symm
    have enrolled : exec (.sample [idHi, idLo, trigger, flags]) s = .next (openWindow h (s.handTaken.setEntry h (some
        { radioId := id, sample := m, bound := none, phase := .live (s.after s.silenceLimit) false }))) := by
      rw [exec_sample_unknown s trigger flags hid nonzero notAll unknown, unknownSample,
        if_pos (show (sampleArgs trigger flags).pair = true from pair),
        lowestFree_some (s := s.handTaken) free least]
      simp only [enrol_eq _ held, hm, ← pair]
      rfl
    refine ⟨fun room => ?_, fun full => ?_⟩
    · rw [enrolled, openWindow_room (s.handTaken.setEntry h _) (entry_setEntry_self s.handTaken h _) room,
        entry_setEntry_self, withWindow_some_live _ (s.after s.silenceLimit) false true rfl]
      simp only [State.setEntry, Vector.set_set]
      rfl
    · rw [enrolled, openWindow_full (s.handTaken.setEntry h _) (entry_setEntry_self s.handTaken h _) full]
  case length => rw [exec, execSample, routeSample_length _ hlen]
  case others =>
    intro idHi idLo trigger flags id hid
    refine ⟨fun invalid => ?_, fun nonzero notAll unknown => ⟨fun clear => ?_, fun pair taken => ?_⟩⟩
    · rw [exec, execSample, routeSample_four _ hid, if_pos invalid]
    · rw [exec_sample_unknown s trigger flags hid nonzero notAll unknown, unknownSample,
        if_neg (show ¬ (sampleArgs trigger flags).pair = true from ne_true_of_eq_false clear)]
    · rw [exec_sample_unknown s trigger flags hid nonzero notAll unknown, unknownSample,
        if_pos (show (sampleArgs trigger flags).pair = true from pair), lowestFree_none (s := s.handTaken) taken]
      rfl

/-! ### A sample and the silence expiry of its entry (R11) -/

/-- A deadline within half the wrap ahead is not reached. -/
theorem not_reached_after {ms : Nat} (pos : 1 ≤ ms) (short : ms ≤ 2 ^ 31) :
    2 ^ 31 ≤ (s.time - s.after ms).toNat := by
  have := s.time.isLt
  simp only [State.after, BitVec.toNat_sub, BitVec.toNat_add, BitVec.toNat_ofNat]
  omega

/-- While the silence timer of a LIVE entry runs, its expiry changes nothing (R11). -/
theorem exec_silenceExpiry_running {h : EntryNo} {e : Enrolled} {silence : Time} {window : Bool}
    (he : s.entry h = some e) (hp : e.phase = .live silence window)
    (running : 2 ^ 31 ≤ (s.time - silence).toNat) : exec (.silenceExpiry h) s = .next s := by
  simp [exec, execSilenceExpiry, he, hp, not_reached_iff.mpr running]

/-- A sample leaves its LIVE entry LIVE with the silence timer restarted, a duplicate or not (R6, R7). -/
theorem knownSample_restarts (h : EntryNo) (e : Enrolled) (m : Sample) :
    ∃ t e' window', knownSample h e m s = t ∧ t.entry h = some e' ∧ t.time = s.time ∧
      e'.phase = .live (s.after s.silenceLimit) window' := by
  by_cases fresh : Entry.isLive (some e) = true → m.seq ≠ e.sample.seq
  · obtain ⟨field', windows', outputs, taken, -⟩ := acceptSample_taken s h e m
    refine ⟨_, _, field', (knownSample_accepted s h fresh).trans taken, heardFrom_entry_self .., ?_, rfl⟩
    rw [heardFrom_frame]
    rfl
  · obtain ⟨live, same⟩ : Entry.isLive (some e) = true ∧ m.seq = e.sample.seq := by simpa using fresh
    cases hp : e.phase with
    | live silence window =>
      refine ⟨restartSilence h e window s, _, window, ?_, entry_setEntry_self .., rfl, rfl⟩
      simp only [knownSample, hp, if_pos same]
    | lost release => simp [Entry.isLive, hp] at live

/-- Radio IDs that stay at their entries stay apart and valid. -/
theorem radioInv_of_radio {s t : State} (same : ∀ g, (t.entry g).radio = (s.entry g).radio) (inv : RadioInv s) :
    RadioInv t := by
  simpa only [RadioInv, same] using inv

/-- Settles O39: after the sample the silence deadline lies a silence limit ahead; after the expiry the entry is LOST,
and a LOST entry accepts any sample. -/
theorem sampleAndSilenceExpiryInEitherOrder : Obligations.SampleAndSilenceExpiryInEitherOrder := by
  unfold Obligations.SampleAndSilenceExpiryInEitherOrder
  intro s idHi idLo trigger flags h e silence window radios bindings ranges he hid hp due
  obtain ⟨-, agrees, -, -⟩ := bindings
  refine ⟨?sampleFirst, ?expiryFirst⟩
  case sampleFirst =>
    obtain ⟨-, -, -, -, -, -, -, ⟨low, high⟩, -⟩ := ranges
    obtain ⟨t, e', window', taken, ht, time, live⟩ :=
      knownSample_restarts s.handTaken h e (sampleArgs trigger flags)
    refine ⟨t, ?_, by simp [ht, Entry.isLive, live], exec_silenceExpiry_running t ht live ?_⟩
    · rw [exec_sample_known s trigger flags radios he hid, taken]
    · rw [time]
      exact not_reached_after s (ms := s.silenceLimit) (by omega) (by omega)
  case expiryFirst =>
    have radios' : RadioInv (lostFrom s h e window) := radioInv_of_radio (lostFrom_radio s he window) radios
    rw [exec_silenceExpiry s he hp due, loseHandset_eq s he]
    generalize hlost : emit _ (lostFrom s h e window) = lost
    have entry : lost.entry h = some { e with
        phase := .lost (if s.releaseLimit = 0 then none else some (s.after (1000 * s.releaseLimit))) } := by
      rw [← hlost, emit_entry, lostFrom, entry_setEntry_self]
    have slot : ∀ k, lost.slot k = if e.bound = some k then (s.slot k).lost else s.slot k := by
      rw [← hlost]
      exact lostFrom_slot s h e window
    have radios : RadioInv lost := by
      rw [← hlost]
      exact radioInv_of_radio (lostFrom_radio s he window) radios
    obtain ⟨field', windows', outputs, taken, -⟩ := acceptSample_taken lost.handTaken h _ (sampleArgs trigger flags)
    have accepted := exec_sample_known lost trigger flags radios entry hid
    rw [knownSample_accepted lost.handTaken h (by simp [Entry.isLive]), taken] at accepted
    refine ⟨lost, _, _, rfl, by rw [entry]; rfl, accepted, heardFrom_entry_self .., rfl, rfl, rfl, fun k hk => ?_⟩
    have source : (s.slot k).source = .handset h := (agrees h k).mpr (by rw [he, boundSlot_some, hk])
    rw [emit_slot, heardFrom_slot, if_pos hk, handTaken_slot, slot, if_pos hk]
    exact ⟨rfl, source⟩

end Sys2Proof.Machine
end

section
/-! What a command can do to the state, said once: every command is a run of small edits, each of one record, queue or
register, with the check or the clamp that the edit passed. An invariant that every edit keeps is kept by every
step. -/

namespace Sys2Proof.Machine

/-! ### The edits -/

/-- A valid radio ID that no entry holds (R3, R4, Table 1-1). -/
def NewRadio (s : State) (id : RadioId) : Prop :=
  id ≠ 0x0000 ∧ id ≠ 0xFFFF ∧ ∀ g, (s.entry g).radio ≠ some id

/-- A crossover record within Table 6-3, the pulse of an OWED RETURN with it. -/
abbrev CrossOk (c : Crossover) : Prop :=
  ConfigOk c.config ∧ (∀ g ∈ c.staged, ConfigOk g) ∧ ∀ p ∈ c.status.owedPulse, 5 ≤ p ∧ p ≤ 60

/-- Commands with their pulses in range (R101). -/
abbrev PulsesOk (commands : List SectionCommand) : Prop := ∀ d ∈ commands, 5 ≤ d.pulse ∧ d.pulse ≤ 60

theorem crossOk_of_rangeInv {s : State} (inv : RangeInv s) (x : CrossNo) : CrossOk (s.cross x) := by
  obtain ⟨-, -, -, -, crossovers, -⟩ := inv
  exact crossovers x

theorem pulsesOk_of_rangeInv {s : State} (inv : RangeInv s) : PulsesOk s.commands := by
  obtain ⟨-, -, -, -, -, commands, -⟩ := inv
  exact commands

/-- One edit other than a reply. The records of a table in range stay in range, a beacon code and the tolerance have
passed their clash checks, and a radio ID that an entry comes to hold is new. -/
inductive Edit (s : State) : State → Prop
  | buffers (hand report : List Byte) : Edit s { s with handRx := hand, sectionRx := report }
  | echo (id : RadioId) (body : EchoBody) : Edit s (queueEcho id body s)
  | notice (body : NoticeBody) : Edit s (queueNotice body s)
  | frameEnd : Edit s (endFrame s)
  | queuesDropped : Edit s { s with out := ⟨[], [], [], false, s.out.transmitter.restarted⟩ }
  | windows (list : List Window) : Edit s { s with windows := list }
  | entry (h : EntryNo) (e : Entry)
      (radio : ∀ id, e.radio = some id → (s.entry h).radio = some id ∨ NewRadio s id) : Edit s (s.setEntry h e)
  | entriesFreed : Edit s { s with handsets := Vector.replicate 12 none }
  | slots (v : Vector Slot 8) (ok : RangeInv s → ∀ k : SlotNo, SlotOk v[k.val]) : Edit s { s with slots := v }
  | holding (b : Holding) (ok : b.db ≤ 127 ∧ b.gain ≤ 1023) : Edit s { s with holding := b }
  | code (k : SlotNo) (c : Option Code) (ok : ∀ new ∈ c, CodeOk new ∧ beaconClash s k new = none) :
      Edit s (s.setCode k c)
  | tolerance (t : Nat) (ok : 1 ≤ t ∧ t ≤ 63) (apart : toleranceClash s t = none) :
      Edit s { s with tolerance := t }
  | crossovers (v : Vector Crossover 16) (ok : RangeInv s → ∀ x : CrossNo, CrossOk v[x.val]) :
      Edit s { s with crossovers := v }
  | commands (list : List SectionCommand) (ok : RangeInv s → PulsesOk list) : Edit s { s with commands := list }
  | cap (n : Nat) (ok : n ≤ 63) : Edit s { s with cap := n }
  | limits (silence release window : Nat) (hs : 50 ≤ silence ∧ silence ≤ 2000) (hr : release ≤ 255)
      (hw : 1 ≤ window ∧ window ≤ 60) :
      Edit s { s with silenceLimit := silence, releaseLimit := release, windowLength := window }
  | rail (round : BitVec 8) (pos : Fin 12) (fresh : Bool) (line : Option RailFrame) :
      Edit s { s with roundNumber := round, framePos := pos, railFresh := fresh, railLine := line }
  | supply (track : TrackState) (asserted : Bool) : Edit s { s with track := track, faultLine := asserted }
  | clock (cause : ResetCause) (time : Time) : Edit s { s with resetCause := cause, time := time }
  | draw : Edit s s.draw
  | poweredOn (asserted : Bool) : Edit s (poweredOn asserted s)

/-- A run of edits. -/
abbrev Edits : State → State → Prop := Relation.ReflTransGen Edit

/-- An edit, or a reply queued with room for it (R144). -/
inductive Change (s : State) : State → Prop
  | edit {t : State} (h : Edit s t) : Change s t
  | reply (r : Reply) (room : s.out.replies.length < 4) : Change s (queueReply r s)

/-- A run of edits and replies. -/
abbrev Changes : State → State → Prop := Relation.ReflTransGen Change

variable {s t u : State}

theorem Edits.trans (h : Edits s t) (later : Edits t u) : Edits s u := Relation.ReflTransGen.trans h later

theorem Changes.trans (h : Changes s t) (later : Changes t u) : Changes s u := Relation.ReflTransGen.trans h later

theorem Edits.changes (h : Edits s t) : Changes s t := Relation.ReflTransGen.mono (fun _ _ e => Change.edit e) s t h

/-- What every edit and every reply with room keeps, a run of them keeps. -/
theorem Changes.keep {P : State → Prop} (edit : ∀ {s t}, Edit s t → P s → P t)
    (reply : ∀ {s} (r : Reply), s.out.replies.length < 4 → P s → P (queueReply r s)) (h : Changes s t) (hs : P s) :
    P t := by
  induction h with
  | refl => exact hs
  | tail _ change ih =>
    cases change with
    | edit e => exact edit e ih
    | reply r room => exact reply r room ih

/-! ### The reply queue -/

/-- Starting a frame takes at most one reply from its queue. -/
theorem startNext_replies_le (o : Outbound) : o.startNext.replies.length ≤ o.replies.length := by
  obtain ⟨replies, echoes, notices, overrun, transmitter⟩ := o
  cases transmitter with
  | sending frame parts => exact le_rfl
  | free =>
    match replies, echoes, notices with
    | r :: rest, _, _ => exact Nat.le_succ _
    | [], e :: rest, _ => exact le_rfl
    | [], [], n :: rest => exact le_rfl
    | [], [], [] => exact le_rfl

/-- No edit queues a reply. -/
theorem Edit.replies_le (h : Edit s t) : t.out.replies.length ≤ s.out.replies.length := by
  cases h with
  | echo id body => exact startNext_replies_le _
  | notice body =>
    rw [queueNotice_out, Outbound.notice]
    split
    · exact startNext_replies_le _
    · exact le_rfl
  | frameEnd =>
    rw [endFrame_out, Outbound.endFrame]
    split
    · exact le_rfl
    · exact le_rfl
    · exact startNext_replies_le _
  | queuesDropped => exact Nat.zero_le _
  | poweredOn => exact Nat.zero_le _
  | _ => exact le_rfl

theorem Edits.replies_le (h : Edits s t) : t.out.replies.length ≤ s.out.replies.length := by
  induction h with
  | refl => exact le_rfl
  | tail _ e ih => exact e.replies_le.trans ih

/-! ### The radio IDs (R3) -/

/-- Radio IDs are apart and valid: a radio ID tells its entry, and is not one of the two that are not valid. -/
theorem radioInv_iff : RadioInv s ↔
    (∀ g h id, (s.entry g).radio = some id → (s.entry h).radio = some id → g = h) ∧
    ∀ h id, (s.entry h).radio = some id → id ≠ 0x0000 ∧ id ≠ 0xFFFF := by
  refine ⟨fun ⟨apart, valid⟩ => ⟨fun g h id hg hh => ?_, fun h id hh => ?_⟩,
    fun ⟨apart, valid⟩ => ⟨fun g h hgh => ?_, fun h => ⟨fun hh => ?_, fun hh => ?_⟩⟩⟩
  · by_contra hgh
    rcases apart g h hgh with hn | hn
    · simp [hg] at hn
    · exact hn (hg.trans hh.symm)
  · exact ⟨fun h0 => (valid h).1 (h0 ▸ hh), fun h0 => (valid h).2 (h0 ▸ hh)⟩
  · cases hg : (s.entry g).radio with
    | none => exact .inl rfl
    | some id => exact .inr fun hh => hgh (apart g h id hg hh.symm)
  · exact (valid h _ hh).1 rfl
  · exact (valid h _ hh).2 rfl

/-- An entry replaced by one with its own radio ID, with a new one or with none. -/
theorem radioInv_setEntry (inv : RadioInv s) {h : EntryNo} {e : Entry}
    (radio : ∀ id, e.radio = some id → (s.entry h).radio = some id ∨ NewRadio s id) : RadioInv (s.setEntry h e) := by
  obtain ⟨apart, valid⟩ := radioInv_iff.mp inv
  have other : ∀ g id, e.radio = some id → (s.entry g).radio = some id → h = g := fun g id he hg =>
    (radio id he).elim (fun own => apart h g id own hg) (fun new => absurd hg (new.2.2 g))
  refine radioInv_iff.mpr ⟨fun g g' id hg hg' => ?_, fun g id hg => ?_⟩
  · rw [entry_setEntry] at hg hg'
    by_cases hgh : h = g <;> by_cases hgh' : h = g'
    · exact hgh.symm.trans hgh'
    · exact hgh.symm.trans (other g' id (by simpa [hgh] using hg) (by simpa [hgh'] using hg'))
    · exact (other g id (by simpa [hgh'] using hg') (by simpa [hgh] using hg)).symm.trans hgh'
    · exact apart g g' id (by simpa [hgh] using hg) (by simpa [hgh'] using hg')
  · rw [entry_setEntry] at hg
    split at hg
    · exact (radio id hg).elim (valid h id) (fun new => ⟨new.1, new.2.1⟩)
    · exact valid g id hg

/-- Every edit keeps the radio IDs apart and valid. -/
theorem Edit.radioInv (h : Edit s t) (inv : RadioInv s) : RadioInv t := by
  cases h with
  | entry h e radio => exact radioInv_setEntry inv radio
  | entriesFreed =>
    have free (g : EntryNo) : State.entry { s with handsets := Vector.replicate 12 none } g = none :=
      Vector.getElem_replicate g.isLt
    simp [RadioInv, free]
  | poweredOn asserted => exact poweredOn_radioInv asserted s
  | _ => exact inv

/-! ### The ranges (R2, R18, R37, R53, R101, R104, R135) -/

/-- Every edit keeps the clamped values in range. -/
theorem Edit.rangeInv (h : Edit s t) (inv : RangeInv s) : RangeInv t := by
  have inv' := inv
  obtain ⟨slots, codes, tolerance, holding, crossovers, commands, cap, silence, release, window⟩ := inv'
  cases h with
  | slots v ok => exact ⟨ok inv, codes, tolerance, holding, crossovers, commands, cap, silence, release, window⟩
  | holding b ok => exact ⟨slots, codes, tolerance, ok, crossovers, commands, cap, silence, release, window⟩
  | code k c ok =>
    refine ⟨slots, fun j d hd => ?_, tolerance, holding, crossovers, commands, cap, silence, release, window⟩
    rw [code_setCode] at hd
    split at hd
    · exact (ok d hd).1
    · exact codes j d hd
  | tolerance n ok apart => exact ⟨slots, codes, ok, holding, crossovers, commands, cap, silence, release, window⟩
  | crossovers v ok => exact ⟨slots, codes, tolerance, holding, ok inv, commands, cap, silence, release, window⟩
  | commands list ok => exact ⟨slots, codes, tolerance, holding, crossovers, ok inv, cap, silence, release, window⟩
  | cap n ok => exact ⟨slots, codes, tolerance, holding, crossovers, commands, ok, silence, release, window⟩
  | limits a b c ha hb hc => exact ⟨slots, codes, tolerance, holding, crossovers, commands, cap, ha, hb, hc⟩
  | poweredOn asserted => exact poweredOn_rangeInv asserted s
  | _ => exact inv

end Sys2Proof.Machine
end

section
/-! The operations on handsets, slots and windows are runs of edits (Chapters 1 to 3). -/

namespace Sys2Proof.Machine

variable (s : State)

/-! ### One record replaced, and what is handed on -/

theorem edit_setSlot (k : SlotNo) {r : Slot} (ok : RangeInv s → SlotOk r) : Edit s (s.setSlot k r) :=
  .slots _ fun inv j => by
    change SlotOk ((s.setSlot k r).slot j)
    rw [slot_setSlot]
    split
    · exact ok inv
    · exact inv.1 j

theorem edits_setSlot (k : SlotNo) {r : Slot} (ok : SlotOk (s.slot k) → SlotOk r) : Edits s (s.setSlot k r) :=
  .single (edit_setSlot s k fun inv => ok (inv.1 k))

theorem edits_setCross (x : CrossNo) {c : Crossover} (ok : CrossOk (s.cross x) → CrossOk c) :
    Edits s (s.setCross x c) :=
  .single (.crossovers _ fun inv y => by
    change CrossOk ((s.setCross x c).cross y)
    rw [cross_setCross]
    split
    · exact ok (crossOk_of_rangeInv inv x)
    · exact crossOk_of_rangeInv inv y)

/-- An entry replaced by one with its own radio ID. -/
theorem edits_setEntry {h : EntryNo} {e : Entry} (radio : e.radio = (s.entry h).radio) :
    Edits s (s.setEntry h e) :=
  .single (.entry h e fun _ hid => .inl (radio ▸ hid))

/-- A handset leaves its entry. -/
theorem edits_freeEntry (h : EntryNo) : Edits s (s.setEntry h none) := .single (.entry h none nofun)

theorem queueNotice_edits (body : NoticeBody) : Edits s (queueNotice body s) := .single (.notice body)

theorem queueEcho_edits (id : RadioId) (body : EchoBody) : Edits s (queueEcho id body s) := .single (.echo id body)

theorem echoTo_edits (h : EntryNo) (body : EchoBody) : Edits s (echoTo h body s) := by
  unfold echoTo
  split
  · exact queueEcho_edits s _ body
  · exact .refl

/-- Echoes and notices handed on one after another. -/
theorem emit_edits {outs : List Output} (quiet : ∀ r, Output.reply r ∉ outs) : Edits s (emit outs s) := by
  induction outs generalizing s with
  | nil => exact .refl
  | cons o outs ih =>
    have later := ih (emit [o] s) fun r hr => quiet r (.tail o hr)
    rw [emit_emit] at later
    refine .trans ?_ later
    cases o with
    | reply r => exact absurd (.head outs) (quiet r)
    | echo id body => exact queueEcho_edits s id body
    | notice body => exact queueNotice_edits s body

/-- An operation at each of a list of crossovers in turn. -/
theorem foldl_edits {f : State → CrossNo → State} (step : ∀ s x, Edits s (f s x)) (xs : List CrossNo) :
    Edits s (xs.foldl f s) := by
  induction xs generalizing s with
  | nil => exact .refl
  | cons x xs ih => exact (step s x).trans (ih (f s x))

/-! ### Slots and bindings -/

theorem atSlot_edits (bound : Option SlotNo) {f : Slot → Slot} (ok : ∀ r, SlotOk r → SlotOk (f r)) :
    Edits s (atSlot bound f s) := by
  cases bound with
  | none => exact .refl
  | some k => exact edits_setSlot s k (ok _)

theorem setWish_edits (k : SlotNo) (armed : Bool) : Edits s (setWish k armed s) := edits_setSlot s k id

theorem setBound_edits (h : EntryNo) (k : Option SlotNo) : Edits s (setBound h k s) :=
  edits_setEntry s (withBound_radio _ k)

theorem handChanged_edits (slot : Option SlotNo) : Edits s (handChanged slot s) := by
  unfold handChanged
  split
  · split
    · exact setWish_edits s _ false
    · exact .refl
  · exact .refl

/-- A slot that is not PACE has no step to be out of range. -/
theorem slotOk_unpaced {r q : Slot} (active : q.active = r.active) (pending : q.pendingProfile = r.pendingProfile)
    (last : q.lastStep = r.lastStep) (step : q.source.paceStep = 0) (ok : SlotOk r) : SlotOk q := by
  obtain ⟨hactive, hpending, hlast, -⟩ := ok
  exact ⟨active ▸ hactive, pending ▸ hpending, last ▸ hlast, step ▸ Nat.zero_le _⟩

theorem makeBinding_edits (h : EntryNo) (k : SlotNo) : Edits s (makeBinding h k s) := by
  refine .trans (edits_setSlot s k ?ok) (setBound_edits _ h (some k))
  exact slotOk_unpaced rfl rfl rfl rfl

theorem breakBinding_edits (h : EntryNo) (k : SlotNo) : Edits s (breakBinding h k s) := by
  refine .trans (edits_setSlot s k ?ok) (setBound_edits _ h none)
  exact slotOk_unpaced rfl rfl rfl rfl

theorem breakBindingOf_edits (h : EntryNo) : Edits s (breakBindingOf h s) := by
  unfold breakBindingOf
  split
  · exact breakBinding_edits s h _
  · exact .refl

/-! ### Windows -/

theorem edits_windows (list : List Window) : Edits s { s with windows := list } := .single (.windows list)

theorem setWindowField_edits (h : EntryNo) (w : Bool) : Edits s (setWindowField h w s) :=
  edits_setEntry s (withWindow_radio _ w)

theorem closeWindow_edits (h : EntryNo) (reason : CloseReason) : Edits s (closeWindow h reason s) := by
  have closed := ((edits_windows s (s.windows.filter fun w => w.entry != h)).trans
    (setWindowField_edits _ h false)).trans (echoTo_edits _ h (.windowClosed reason))
  unfold closeWindow
  split
  · exact closed
  · exact closed.trans (queueNotice_edits _ _)

theorem openWindow_edits (h : EntryNo) : Edits s (openWindow h s) := by
  unfold openWindow
  split
  · exact (((edits_windows s _).trans (setWindowField_edits _ h true)).trans (echoTo_edits _ h _)).trans
      (queueNotice_edits _ _)
  · exact echoTo_edits s h .windowRefused

theorem openRequest_edits (h : EntryNo) : Edits s (openRequest h s) := by
  unfold openRequest
  split
  · exact closeWindow_edits s h .cancelled
  · exact openWindow_edits s h

theorem handPair_edits (h : EntryNo) (press window : Bool) : Edits s (handPair h press window s) := by
  rw [handPair_eq]
  split
  · exact openRequest_edits s h
  · exact .refl

theorem closeIfOpen_edits (h : EntryNo) (reason : CloseReason) : Edits s (closeIfOpen h reason s) := by
  unfold closeIfOpen
  split
  · exact closeWindow_edits s h reason
  · exact .refl

theorem pairSighting_edits (slot : Option SlotNo) : Edits s (pairSighting slot s) := by
  unfold pairSighting
  split
  · split
    · exact ((((breakBindingOf_edits s _).trans (makeBinding_edits _ _ _)).trans (closeWindow_edits _ _ _)).trans
        (echoTo_edits _ _ _)).trans (queueNotice_edits _ _)
    · exact .refl
  · exact .refl
  · exact .refl

/-! ### Handset events -/

/-- A handset that is heard keeps its radio ID, and its slot the profiles and the pace step. -/
theorem acceptSample_edits {h : EntryNo} {e : Enrolled} (he : s.entry h = some e) (m : Sample) :
    Edits s (acceptSample h e m s) := by
  rw [acceptSample_eq]
  refine .trans (.trans (.trans (edits_setEntry s ?radio) (atSlot_edits _ _ ?revived)) (handPair_edits _ h _ _))
    (atSlot_edits _ _ ?pressed)
  case radio => rw [he]; rfl
  case revived => exact fun _ ok => ok
  case pressed => exact fun _ ok => ok

theorem knownSample_edits {h : EntryNo} {e : Enrolled} (he : s.entry h = some e) (m : Sample) :
    Edits s (knownSample h e m s) := by
  unfold knownSample
  split
  · split
    · exact edits_setEntry s (by rw [he]; rfl)
    · exact acceptSample_edits s he m
  · exact acceptSample_edits s he m

theorem unknownSample_edits {id : RadioId} (new : NewRadio s id) (m : Sample) : Edits s (unknownSample id m s) := by
  unfold unknownSample
  split
  · split
    · rename_i h _
      refine .trans (.single (.entry h _ fun id' hid => .inr ?_)) (openRequest_edits _ h)
      exact (Option.some.inj hid) ▸ new
    · exact queueEcho_edits s id .tableFull
  · exact .refl

/-- A radio ID that is not found is held by no entry. -/
theorem findEntry_eq_none {id : RadioId} (h : s.findEntry id = none) (g : EntryNo) : (s.entry g).radio ≠ some id := by
  have := find_finRange_none.mp h g
  cases he : s.entry g with
  | none => simp
  | some e => simpa [he] using this

theorem routeSample_edits (payload : List Byte) : Edits s (routeSample payload s) := by
  unfold routeSample
  split
  · dsimp only
    split
    · exact .refl
    · rename_i valid
      unfold takeSample
      split
      · split
        · exact knownSample_edits s ‹_› _
        · exact .refl
      · rename_i unknown
        obtain ⟨nonzero, notAll⟩ := not_or.mp valid
        exact unknownSample_edits s ⟨nonzero, notAll, findEntry_eq_none s unknown⟩ _
  · exact .refl

theorem closeOutputs_quiet (h : EntryNo) (reason : CloseReason) (r : Reply) :
    Output.reply r ∉ closeOutputs s h reason := by
  unfold closeOutputs echoOutput
  split <;> simp

theorem loseHandset_edits {h : EntryNo} {e : Enrolled} (he : s.entry h = some e) (window : Bool) :
    Edits s (loseHandset h e window s) := by
  rw [loseHandset_eq s he]
  refine .trans ?_ (emit_edits _ ?_)
  · refine .trans (.trans (edits_windows s _) (atSlot_edits _ e.bound ?lost)) (edits_setEntry _ ?radio)
    case lost => exact fun _ ok => ok
    case radio =>
      have own : (s.entry h).radio = some e.radioId := by rw [he, radio_some]
      rw [atSlot_entry]
      exact own.symm
  · intro r
    split <;> simp [closeOutputs_quiet]

theorem releaseHandset_edits (h : EntryNo) : Edits s (releaseHandset h s) :=
  (((breakBindingOf_edits s h).trans (echoTo_edits _ h .released)).trans (queueNotice_edits _ _)).trans
    (edits_freeEntry _ h)

/-! ### BIND and UNBIND -/

theorem bindHandset_edits (h : EntryNo) (k : SlotNo) : Edits s (bindHandset h k s) := by
  have other : ∀ t, Edits t (breakOther h k t) := fun t => by
    unfold breakOther
    split
    · split
      · exact .refl
      · exact breakBinding_edits t h _
    · exact .refl
  have taken : ∀ t, Edits t (takeFromOther h k t) := fun t => by
    unfold takeFromOther
    split
    · split
      · exact .refl
      · exact (setBound_edits t _ none).trans (echoTo_edits _ _ .released)
    · exact .refl
    · exact .refl
  exact ((((closeIfOpen_edits s h .superseded).trans (other _)).trans (taken _)).trans
    (makeBinding_edits _ h k)).trans (echoTo_edits _ h (.bound k))

theorem unbindSlot_edits (k : SlotNo) : Edits s (unbindSlot k s) := by
  unfold unbindSlot
  split
  · exact ((closeIfOpen_edits s _ .superseded).trans (breakBinding_edits _ _ k)).trans (echoTo_edits _ _ .released)
  · exact edits_setSlot s k (slotOk_unpaced rfl rfl rfl rfl)
  · exact .refl

end Sys2Proof.Machine
end

section
/-! The operations on crossovers, the section command queue, the rails and the resets are runs of edits (Chapters 5, 6,
8 and 9). -/

namespace Sys2Proof.Machine

variable (s : State)

/-! ### Records and commands -/

/-- A record whose command is not OWED keeps no pulse. -/
theorem crossOk_unowed {c d : Crossover} (config : d.config = c.config) (staged : d.staged = c.staged)
    (status : d.status.owedPulse = none) (ok : CrossOk c) : CrossOk d := by
  obtain ⟨hconfig, hstaged, -⟩ := ok
  exact ⟨config ▸ hconfig, staged ▸ hstaged, by simp [status]⟩

/-- A record whose RETURN is OWED keeps its configuration's pulse (R96). -/
theorem crossOk_owed {c d : Crossover} (config : d.config = c.config) (staged : d.staged = c.staged)
    (status : d.status.owedPulse = some c.config.pulse) (ok : CrossOk c) : CrossOk d := by
  obtain ⟨hconfig, hstaged, -⟩ := ok
  refine ⟨config ▸ hconfig, staged ▸ hstaged, fun p hp => ?_⟩
  rw [status] at hp
  exact Option.some.inj hp ▸ hconfig.1

theorem pushCommand_edits {d : SectionCommand} (ok : RangeInv s → 5 ≤ d.pulse ∧ d.pulse ≤ 60) :
    Edits s (s.pushCommand d) :=
  .single (.commands _ fun inv c hc => by
    rcases List.mem_append.mp hc with h | h
    · exact pulsesOk_of_rangeInv inv c h
    · rw [List.mem_singleton.mp h]
      exact ok inv)

/-- Commands taken out of the queue. -/
theorem edits_commandsTaken {list : List SectionCommand} (taken : ∀ d ∈ list, d ∈ s.commands) :
    Edits s { s with commands := list } :=
  .single (.commands list fun inv d hd => pulsesOk_of_rangeInv inv d (taken d hd))

theorem pulse_ok (x : CrossNo) (inv : RangeInv s) :
    5 ≤ (s.cross x).config.pulse ∧ (s.cross x).config.pulse ≤ 60 := by
  obtain ⟨⟨pulse, -⟩, -⟩ := crossOk_of_rangeInv inv x
  exact pulse

theorem decideReturn_edits (x : CrossNo) : Edits s (decideReturn x s) := by
  unfold decideReturn
  split
  · exact (pushCommand_edits s (pulse_ok s x)).trans (edits_setCross _ x (crossOk_unowed rfl rfl rfl))
  · exact edits_setCross s x (crossOk_owed rfl rfl rfl)

theorem serveOwed_edits : Edits s (serveOwed s) := by
  unfold serveOwed
  split
  · exact .refl
  · split
    · exact .refl
    · rename_i x _ _ pulse hpulse
      refine (pushCommand_edits s fun inv => ?_).trans (edits_setCross _ x (crossOk_unowed rfl rfl rfl))
      obtain ⟨-, -, owed⟩ := crossOk_of_rangeInv inv x
      exact owed pulse hpulse

theorem enterFault_edits (x : CrossNo) (cause : FaultCause) : Edits s (enterFault x cause s) := by
  simp only [enterFault]
  split
  · refine (((edits_commandsTaken s ?_).trans (edits_setCross _ x ?_)).trans (queueNotice_edits _ _)).trans
      (serveOwed_edits _)
    · exact fun d hd => List.mem_of_mem_filter hd
    · exact crossOk_unowed rfl rfl rfl
  · refine .trans (edits_setCross s x ?_) (queueNotice_edits _ _)
    exact crossOk_unowed rfl rfl rfl

/-! ### Configurations (R104 to R107) -/

theorem applyConfig_edits (x : CrossNo) {g : CrossConfig} (ok : ConfigOk g) : Edits s (applyConfig x g s) := by
  have applied (c : Crossover) (hc : c.config = g) (hs : c.staged = (s.cross x).staged)
      (hp : c.status = (s.cross x).status) : Edits s (s.setCross x c) :=
    edits_setCross s x fun ⟨_, staged, owed⟩ => ⟨hc ▸ ok, hs ▸ staged, hp ▸ owed⟩
  simp only [applyConfig]
  split
  · split
    · split
      · exact applied _ rfl rfl rfl
      · exact (applied (Crossover.withConfig _ _ g) rfl rfl rfl).trans (decideReturn_edits _ x)
    all_goals exact applied _ rfl rfl rfl
  · split
    case h_4 => split <;> exact applied _ rfl rfl rfl
    all_goals exact applied _ rfl rfl rfl

theorem loadConfig_edits (x : CrossNo) {g : CrossConfig} (ok : ConfigOk g) : Edits s (loadConfig x g s) := by
  simp only [loadConfig]
  split
  · refine .trans (edits_setCross s x ?_) (applyConfig_edits _ x ok)
    exact fun ⟨config, _, owed⟩ => ⟨config, nofun, owed⟩
  · exact edits_setCross s x fun ⟨config, _, owed⟩ => ⟨config, fun g' hg => Option.some.inj hg ▸ ok, owed⟩

theorem becomeOpen_edits (x : CrossNo) : Edits s (becomeOpen x s) := by
  cases hg : (s.cross x).staged with
  | none =>
    rw [becomeOpen_plain s x hg]
    exact edits_setCross s x id
  | some g =>
    rw [becomeOpen_staged s x hg]
    exact edits_setCross s x fun ⟨_, staged, owed⟩ => ⟨staged g hg, nofun, owed⟩

theorem becomeHolding_edits (x : CrossNo) : Edits s (becomeHolding x s) := by
  rw [becomeHolding_eq]
  split
  · exact edits_setCross s x id
  · exact decideReturn_edits s x

theorem emptiedQueue_edits (x : CrossNo) : Edits s (emptiedQueue x s) := by
  cases h : (s.cross x).state with
  | passing => rw [emptiedQueue_passing s x h]; exact becomeOpen_edits s x
  | diverted => rw [emptiedQueue_diverted s x h]; exact becomeHolding_edits s x
  | fault => rw [emptiedQueue_fault s x h]; exact edits_setCross s x id
  | disabled | opened | throwing | holding | returning | dark =>
    simp only [emptiedQueue, h]
    exact .refl

/-! ### The zone queue (R72 to R88) -/

theorem completePassage_edits (x : CrossNo) (e : ZoneEntry) (rest : List ZoneEntry) (outcome : PassageOutcome)
    (exit : Option (Time × ExitSensor)) : Edits s (completePassage x e rest outcome exit s) := by
  have passed : Edits s (s.setCross x ((s.cross x).passed rest (e.record outcome exit))) := edits_setCross s x id
  rw [completePassage_eq]
  refine .trans ?_ (emit_edits _ ?quiet)
  · dsimp only
    split
    · exact passed.trans (handChanged_edits _ e.slot)
    · exact passed
  case quiet =>
    intro r
    split <;> simp

theorem removeEntry_edits (x : CrossNo) (e : ZoneEntry) (rest : List ZoneEntry) (outcome : PassageOutcome)
    (exit : Option (Time × ExitSensor)) : Edits s (removeEntry x e rest outcome exit s) := by
  have passed := completePassage_edits s x e rest outcome exit
  unfold removeEntry
  split
  · exact passed.trans (emptiedQueue_edits _ x)
  · exact passed

theorem displaceSlot_edits (x : CrossNo) (slot : Option SlotNo) : Edits s (displaceSlot x slot s) := by
  unfold displaceSlot
  split
  · exact .refl
  · dsimp only
    split
    · exact completePassage_edits s x _ _ _ _
    · exact .refl

theorem displaceHead_edits (x : CrossNo) : Edits s (displaceHead x s) := by
  unfold displaceHead
  split
  · split
    · exact completePassage_edits s x _ _ _ _
    · exact .refl
  · exact .refl

theorem appendEntry_edits (x : CrossNo) (slot : Option SlotNo) : Edits s (appendEntry x slot s) := by
  by_cases h : (s.cross x).state = .opened ∧ (approachDecided x slot s).2 = .throwing
  · rw [appendEntry_throw s x slot h]
    exact (pushCommand_edits s (pulse_ok s x)).trans (edits_setCross _ x (crossOk_unowed rfl rfl rfl))
  · rw [appendEntry_plain s x slot h]
    exact edits_setCross s x id

theorem takeApproach_edits (x : CrossNo) (slot : Option SlotNo) : Edits s (takeApproach x slot s) := by
  have cleared := (displaceSlot_edits s x slot).trans (displaceHead_edits _ x)
  unfold takeApproach
  dsimp only
  generalize displaceHead x (displaceSlot x slot s) = t at cleared ⊢
  have settled : Edits s
      (if !(s.cross x).zone.isEmpty && (t.cross x).zone.isEmpty then emptiedQueue x t else t) := by
    split
    · exact cleared.trans (emptiedQueue_edits t x)
    · exact cleared
  generalize (if !(s.cross x).zone.isEmpty && (t.cross x).zone.isEmpty then emptiedQueue x t else t) = u
    at settled ⊢
  split
  · exact settled.trans (appendEntry_edits _ x slot)
  · exact settled

theorem takeExit_edits (x : CrossNo) (sensor : ExitSensor) (slot : Option SlotNo) :
    Edits s (takeExit x sensor slot s) := by
  simp only [takeExit]
  split
  · split
    · exact removeEntry_edits s x _ _ _ _
    · exact .refl
  · split
    · exact removeEntry_edits s x _ _ _ _
    · exact .refl

/-! ### Sightings (R61 to R65) -/

theorem draw_edits : Edits s s.draw := .single .draw

theorem crossSighting_edits (x : CrossNo) (sensor : Sensor) (slot : Option SlotNo) :
    Edits s (crossSighting x sensor slot s) := by
  unfold crossSighting
  split
  · split
    · exact takeApproach_edits s x slot
    · exact takeExit_edits s x _ slot
  · exact .refl

theorem handSighting_edits (x : CrossNo) (sensor : Sensor) (slot : Option SlotNo) :
    Edits s (handSighting x sensor slot s) := by
  unfold handSighting
  split
  · split
    · exact ((draw_edits s).trans (pairSighting_edits _ slot)).trans (crossSighting_edits _ x sensor slot)
    · exact ((draw_edits s).trans (crossSighting_edits _ x sensor slot)).trans (pairSighting_edits _ slot)
  · exact (pairSighting_edits s slot).trans (crossSighting_edits _ x sensor slot)

theorem takeSighting_edits (x : CrossNo) (sensor p w : Byte) : Edits s (takeSighting x sensor p w s) := by
  unfold takeSighting
  split
  · exact .refl
  · split
    · exact .refl
    · exact handSighting_edits s x _ _

/-! ### Diverters (R92 to R98) -/

theorem confirmCommand_edits (x : CrossNo) : Edits s (confirmCommand x s) :=
  edits_setCross s x (crossOk_unowed rfl rfl rfl)

theorem confirmThrow_edits (x : CrossNo) : Edits s (confirmThrow x s) := by
  have confirmed := confirmCommand_edits s x
  simp only [confirmThrow]
  split
  · exact confirmed.trans (becomeHolding_edits _ x)
  · exact confirmed.trans (edits_setCross _ x id)

theorem confirmReturn_edits (x : CrossNo) : Edits s (confirmReturn x s) := by
  have confirmed := confirmCommand_edits s x
  simp only [confirmReturn]
  split
  · exact confirmed.trans (becomeOpen_edits _ x)
  · exact confirmed.trans (edits_setCross _ x id)

theorem takePosition_edits (x : CrossNo) (pos : Position) : Edits s (takePosition x pos s) := by
  have fault := enterFault_edits s x .wrongPosition
  cases h : (s.cross x).state with
  | disabled | fault | dark => simp only [takePosition, h]; exact .refl
  | opened | passing =>
    cases pos
    · simp only [takePosition, h]; exact .refl
    · simp only [takePosition, h]; exact fault
  | diverted | holding =>
    cases pos
    · simp only [takePosition, h]; exact fault
    · simp only [takePosition, h]; exact .refl
  | throwing =>
    simp only [takePosition, h]
    split
    · exact confirmThrow_edits s x
    · exact fault
  | returning =>
    simp only [takePosition, h]
    split
    · exact confirmReturn_edits s x
    · exact fault

theorem elapseGuard_edits (x : CrossNo) : Edits s (elapseGuard x s) := by
  have elapsed : Edits s (s.setCross x { s.cross x with guardRunning := false }) := edits_setCross s x id
  simp only [elapseGuard]
  split
  · exact elapsed.trans (decideReturn_edits _ x)
  · exact elapsed

/-! ### The fault line (R137 to R139) -/

/-- Every crossover record replaced by a function that keeps it in range. -/
theorem edits_mapCrossovers {f : Crossover → Crossover} (ok : ∀ c, CrossOk c → CrossOk (f c)) :
    Edits s { s with crossovers := mapTable f s.crossovers } :=
  .single (.crossovers _ fun inv x => by
    rw [mapTable_getElem]
    exact ok _ (crossOk_of_rangeInv inv x))

theorem edits_supply (track : TrackState) (asserted : Bool) :
    Edits s { s with track := track, faultLine := asserted } := .single (.supply track asserted)

theorem edits_commandsDropped : Edits s { s with commands := [] } := edits_commandsTaken s (by simp)

theorem enterCutoff_edits : Edits s (enterCutoff s) := by
  refine .trans (.trans (.trans (edits_supply s .cutoff s.faultLine) (edits_commandsDropped _))
    (edits_mapCrossovers _ (f := Crossover.darkened) ?_)) (queueNotice_edits _ .cutoff)
  exact fun c => crossOk_unowed rfl rfl rfl

theorem resyncDark_edits (x : CrossNo) : Edits s (resyncDark s x) := by
  simp only [resyncDark]
  split
  · split
    · exact decideReturn_edits s x
    · exact edits_setCross s x id
  · exact .refl

theorem leaveCutoff_edits : Edits s (leaveCutoff s) :=
  ((edits_supply s .halt s.faultLine).trans (foldl_edits _ resyncDark_edits _)).trans (queueNotice_edits _ _)

/-! ### RESTART (R156) -/

theorem edits_rail (round : BitVec 8) (pos : Fin 12) (fresh : Bool) (line : Option RailFrame) :
    Edits s { s with roundNumber := round, framePos := pos, railFresh := fresh, railLine := line } :=
  .single (.rail round pos fresh line)

/-- A slot record is in range after RESTART: the pace step is kept (R35). -/
theorem restarted_ok {r : Slot} (ok : SlotOk r) : SlotOk r.restarted := by
  obtain ⟨active, -, -, step⟩ := ok
  refine ⟨active, nofun, Nat.zero_le _, ?_⟩
  rw [Slot.restarted]
  cases hs : r.source with
  | pace p => rw [hs] at step; exact step
  | handset h => exact Nat.zero_le _
  | none => exact Nat.zero_le _

theorem forgotten_edits : Edits s (forgotten s) := by
  have slots : ∀ t : State, Edits t { t with slots := mapTable Slot.restarted t.slots } := fun t =>
    .single (.slots _ fun inv k => by rw [mapTable_getElem]; exact restarted_ok (inv.1 k))
  have line : Edits s { s with track := if s.faultLine then .cutoff else .halt } := edits_supply s _ s.faultLine
  have registers := ((line.tail (.clock .restart 0)).tail (.buffers [] [])).trans
    (edits_rail _ 0 0 true s.railLine)
  have handsets := (registers.tail .entriesFreed).tail (.windows [])
  exact ((handsets.trans (slots _)).tail (.holding .default (by decide))).tail .queuesDropped

theorem resyncEnabled_edits (x : CrossNo) : Edits s (resyncEnabled s x) := by
  unfold resyncEnabled
  split
  · exact decideReturn_edits s x
  · exact .refl

theorem restartCrossovers_edits : Edits s (restartCrossovers s) := by
  have dropped : Edits s (zonesForgotten s) := by
    refine .trans (edits_commandsDropped s) (edits_mapCrossovers _ (f := Crossover.restarted (s.track == .cutoff)) ?_)
    exact fun c ⟨config, _, _⟩ => ⟨config, nofun, nofun⟩
  unfold restartCrossovers
  split
  · exact dropped
  · exact dropped.trans (foldl_edits _ resyncEnabled_edits _)

theorem restartPart_edits : Edits s (restartPart s) :=
  ((forgotten_edits s).trans (restartCrossovers_edits _)).trans (queueNotice_edits _ _)

/-! ### Rail frames (R112, R127 to R133) -/

theorem putFrame_edits (p : Fin 12) (f : RailFrame) : Edits s (putFrame p f s) :=
  edits_rail s s.roundNumber p false (some f)

theorem applyPending_edits (k : SlotNo) : Edits s (applyPending k s) := by
  simp only [applyPending]
  split
  · exact .refl
  · rename_i p hp
    exact edits_setSlot s k fun ⟨_, pending, last, step⟩ => ⟨pending p hp, nofun, last, step⟩

/-- A step is within the ceiling, whatever asks for it (R116 to R119). -/
theorem driveStep_le (k : SlotNo) (ok : SlotOk (s.slot k)) : driveStep s k ≤ 63 := by
  obtain ⟨⟨-, -, ceil, -⟩, -⟩ := ok
  have clamped (cap q : Nat) : clampStep (s.slot k).active cap q ≤ 63 :=
    ((min_le_left _ _).trans (min_le_right _ _)).trans ceil
  have risen (last cap q : Nat) : riseLimited (s.slot k).active last (clampStep (s.slot k).active cap q) ≤ 63 :=
    (min_le_left _ _).trans (clamped cap q)
  simp only [driveStep]
  split
  · exact Nat.zero_le _
  · exact Nat.zero_le _
  · exact Nat.zero_le _
  · split
    · exact clamped _ _
    · exact risen _ _ _
  · exact risen _ _ _

theorem formDrive_edits (k : SlotNo) : Edits s (formDrive k s) := by
  refine .trans (.trans (applyPending_edits s k) (edits_setSlot _ k ?_)) (putFrame_edits _ _ _)
  intro ok
  have below := driveStep_le _ k ok
  obtain ⟨active, pending, -, step⟩ := ok
  exact ⟨active, pending, below, step⟩

theorem formGate_edits (p : Fin 12) : Edits s (formGate p s) := by
  unfold formGate
  split
  · exact putFrame_edits s p _
  · rename_i d rest hcommands
    refine .trans (.trans (.trans (edits_commandsTaken s (list := rest) ?_) (edits_setCross _ d.crossover ?_))
      (serveOwed_edits _)) (putFrame_edits _ p _)
    · exact fun c hc => hcommands ▸ List.mem_cons_of_mem d hc
    · exact crossOk_unowed rfl rfl rfl

end Sys2Proof.Machine
end

section
/-! Every request, every command and every step is a run of edits and replies; the radio IDs and the ranges that every
edit keeps (O6, O8). -/

namespace Sys2Proof.Machine

variable (s : State)

/-! ### Clamped arguments (R18) -/

theorem clamp_le (lo hi n : Nat) : clamp lo hi n ≤ hi := min_le_right _ _

theorem le_clamp {lo hi : Nat} (h : lo ≤ hi) (n : Nat) : lo ≤ clamp lo hi n := le_min (le_max_right _ _) h

theorem clamp_mem {lo hi : Nat} (h : lo ≤ hi) (n : Nat) : lo ≤ clamp lo hi n ∧ clamp lo hi n ≤ hi :=
  ⟨le_clamp h n, clamp_le lo hi n⟩

theorem profileArgs_ok {hold : Holding} (ok : hold.db ≤ 127 ∧ hold.gain ≤ 1023)
    (ceil minrun rise decay policy : Byte) : ProfileOk (profileArgs hold ceil minrun rise decay policy) :=
  ⟨ok.1, ok.2, clamp_le _ _ _, clamp_le _ _ _, clamp_mem (by decide) _, clamp_mem (by decide) _⟩

/-- C is at least 16, so the range of D is not empty (R55). -/
theorem codeArgs_ok (cHi cLo dHi dLo : Byte) : CodeOk (codeArgs cHi cLo dHi dLo) := by
  obtain ⟨low, high⟩ := clamp_mem (lo := 16) (hi := 255) (by decide) (be16 cHi cLo)
  obtain ⟨one, below⟩ := clamp_mem (lo := 1) (hi := clamp 16 255 (be16 cHi cLo) - 1) (by omega) (be16 dHi dLo)
  exact ⟨low, high, one, by simp only [codeArgs]; omega⟩

theorem configArgs_ok (enable pulse dead confirm clearHi clearLo : Byte) :
    ConfigOk (configArgs enable pulse dead confirm clearHi clearLo) :=
  ⟨clamp_mem (by decide) _, clamp_le _ _ _, clamp_mem (by decide) _, clamp_mem (by decide) _⟩

/-! ### Requests (R150, R151) -/

/-- A request has an effect made of edits, and then its reply; RESTART has no reply. -/
def Answers (s t : State) : Prop := ∃ u, Edits s u ∧ (t = u ∨ ∃ r, t = queueReply r u)

variable {s} {t : State}

theorem answers_effect (effect : Edits s t) : Answers s t := ⟨t, effect, .inl rfl⟩

theorem answers_queueReply (effect : Edits s t) (r : Reply) : Answers s (queueReply r t) :=
  ⟨t, effect, .inr ⟨r, rfl⟩⟩

theorem answers_answer (effect : Edits s t) (tag code : Byte) (bytes : List Byte) :
    Answers s (answer tag code bytes t) := answers_queueReply effect _

theorem refuseWith_answers (tag code : Byte) (status : ReplyStatus) (bytes : List Byte) :
    Answers s (refuseWith tag code status bytes s) := answers_queueReply .refl _

theorem refuse_answers (tag code : Byte) (status : ReplyStatus) : Answers s (refuse tag code status s) :=
  refuseWith_answers tag code status []

/-- The effect of a request queues no reply, so the room it was taken with is there for its own (R144). -/
theorem Answers.changes (h : Answers s t) (room : s.out.replies.length < 4) : Changes s t := by
  obtain ⟨u, effect, rfl | ⟨r, rfl⟩⟩ := h
  · exact effect.changes
  · exact effect.changes.tail (.reply r (Nat.lt_of_le_of_lt effect.replies_le room))

section
variable (s) (tag : Byte) (args : List Byte)

theorem statusRequest_answers : Answers s (statusRequest tag args s) := by
  unfold statusRequest
  split
  · exact answers_answer .refl ..
  · exact refuse_answers ..

theorem readHandsetRequest_answers : Answers s (readHandsetRequest tag args s) := by
  unfold readHandsetRequest
  split
  · split
    · exact answers_answer .refl ..
    · exact refuse_answers ..
  · exact refuse_answers ..

theorem readSlotRequest_answers : Answers s (readSlotRequest tag args s) := by
  unfold readSlotRequest
  split
  · split
    · exact answers_answer (draw_edits s) ..
    · exact refuse_answers ..
  · exact refuse_answers ..

theorem readCrossoverRequest_answers : Answers s (readCrossoverRequest tag args s) := by
  unfold readCrossoverRequest
  split
  · split
    · rename_i x _
      have cleared : Edits s.draw (s.draw.setCross x { s.cross x with lastNew := false }) :=
        edits_setCross s.draw x id
      exact answers_queueReply ((draw_edits s).trans cleared) _
    · exact refuse_answers ..
  · exact refuse_answers ..

theorem readWindowsRequest_answers : Answers s (readWindowsRequest tag args s) := by
  unfold readWindowsRequest
  split
  · exact answers_answer .refl ..
  · exact refuse_answers ..

theorem profileFirstRequest_answers : Answers s (profileFirstRequest tag args s) := by
  unfold profileFirstRequest
  split
  · exact answers_answer (.single (.holding _ ⟨clamp_le _ _ _, clamp_le _ _ _⟩)) ..
  · exact refuse_answers ..

theorem profileSecondRequest_answers : Answers s (profileSecondRequest tag args s) := by
  unfold profileSecondRequest
  split
  · split
    · rename_i k _
      refine answers_answer (.single (edit_setSlot s k fun inv => ?_)) ..
      obtain ⟨slots, -, -, holding, -⟩ := inv
      obtain ⟨active, -, last, step⟩ := slots k
      exact ⟨active, fun p hp => Option.some.inj hp ▸ profileArgs_ok holding .., last, step⟩
    · exact refuse_answers ..
  · exact refuse_answers ..

theorem bindRequest_answers : Answers s (bindRequest tag args s) := by
  unfold bindRequest
  split
  · split
    · split
      · exact refuse_answers ..
      · split
        · exact refuse_answers ..
        · exact answers_answer (bindHandset_edits s _ _) ..
    · exact refuse_answers ..
  · exact refuse_answers ..

theorem unbindRequest_answers : Answers s (unbindRequest tag args s) := by
  unfold unbindRequest
  split
  · split
    · exact answers_answer (unbindSlot_edits s _) ..
    · exact refuse_answers ..
  · exact refuse_answers ..

theorem forgetRequest_answers : Answers s (forgetRequest tag args s) := by
  unfold forgetRequest
  split
  · split
    · split
      · exact refuse_answers ..
      · exact answers_answer ((closeIfOpen_edits s _ .superseded).trans (releaseHandset_edits _ _)) ..
    · exact refuse_answers ..
  · exact refuse_answers ..

theorem setPaceRequest_answers : Answers s (setPaceRequest tag args s) := by
  unfold setPaceRequest
  split
  · split
    · split
      · exact refuse_answers ..
      · exact answers_answer (edits_setSlot s _ fun ⟨active, pending, last, _⟩ =>
          ⟨active, pending, last, clamp_le _ _ _⟩) ..
    · exact refuse_answers ..
  · exact refuse_answers ..

theorem wishRequest_answers : Answers s (wishRequest tag args s) := by
  unfold wishRequest
  split
  · split
    · split
      · exact answers_answer (setWish_edits s _ _) ..
      · exact refuse_answers ..
    · exact refuse_answers ..
  · exact refuse_answers ..

theorem beaconRequest_answers : Answers s (beaconRequest tag args s) := by
  unfold beaconRequest
  split
  · split
    · dsimp only
      split
      · exact refuseWith_answers ..
      · rename_i apart
        refine answers_answer (.single (.code _ _ fun new hnew => ?_)) ..
        obtain rfl := Option.some.inj hnew
        exact ⟨codeArgs_ok .., apart⟩
    · exact refuse_answers ..
  · exact refuse_answers ..

theorem beaconClearRequest_answers : Answers s (beaconClearRequest tag args s) := by
  unfold beaconClearRequest
  split
  · split
    · exact answers_answer (.single (.code _ none nofun)) ..
    · exact refuse_answers ..
  · exact refuse_answers ..

theorem toleranceRequest_answers : Answers s (toleranceRequest tag args s) := by
  unfold toleranceRequest
  split
  · dsimp only
    split
    · exact refuseWith_answers ..
    · rename_i apart
      exact answers_answer (.single (.tolerance _ (clamp_mem (by decide) _) apart)) ..
  · exact refuse_answers ..

theorem crossoverSetRequest_answers : Answers s (crossoverSetRequest tag args s) := by
  unfold crossoverSetRequest
  split
  · split
    · exact answers_answer ((loadConfig_edits s _ (configArgs_ok ..)).trans (draw_edits _)) ..
    · exact refuse_answers ..
  · exact refuse_answers ..

theorem crossoverClearRequest_answers : Answers s (crossoverClearRequest tag args s) := by
  unfold crossoverClearRequest
  split
  · split
    · split
      · exact refuse_answers ..
      · split
        · exact refuse_answers ..
        · exact answers_answer (decideReturn_edits s _) ..
    · exact refuse_answers ..
  · exact refuse_answers ..

theorem trackRequest_answers : Answers s (trackRequest tag args s) := by
  unfold trackRequest
  split
  · split
    · exact refuse_answers ..
    · rename_i state cap _
      have stored : Edits s { s with track := trackArg state, cap := clamp 0 63 cap.toNat } :=
        (edits_supply s (trackArg state) s.faultLine).tail (.cap _ (clamp_le _ _ _))
      exact answers_answer stored ..
  · exact refuse_answers ..

theorem clearCutoffRequest_answers : Answers s (clearCutoffRequest tag args s) := by
  unfold clearCutoffRequest
  split
  · split
    · exact refuse_answers ..
    · split
      · exact refuse_answers ..
      · exact answers_answer (leaveCutoff_edits s) ..
  · exact refuse_answers ..

theorem linkSetRequest_answers : Answers s (linkSetRequest tag args s) := by
  unfold linkSetRequest
  split
  · exact answers_answer (.single (.limits _ _ _ (clamp_mem (by decide) _) (clamp_le _ _ _)
      (clamp_mem (by decide) _))) ..
  · exact refuse_answers ..

theorem restartRequest_answers : Answers s (restartRequest tag args s) := by
  unfold restartRequest
  split
  · exact answers_effect (restartPart_edits s)
  · exact refuse_answers ..

/-- A code of Table 12-4 names its request, and every other is refused (R151 ①). -/
theorem requestByCode_answers (code : Byte) : Answers s (requestByCode tag code args s) := by
  unfold requestByCode
  split
  · exact statusRequest_answers ..
  · exact readHandsetRequest_answers ..
  · exact readSlotRequest_answers ..
  · exact readCrossoverRequest_answers ..
  · exact readWindowsRequest_answers ..
  · exact profileFirstRequest_answers ..
  · exact profileSecondRequest_answers ..
  · exact bindRequest_answers ..
  · exact unbindRequest_answers ..
  · exact forgetRequest_answers ..
  · exact setPaceRequest_answers ..
  · exact wishRequest_answers ..
  · exact beaconRequest_answers ..
  · exact beaconClearRequest_answers ..
  · exact toleranceRequest_answers ..
  · exact crossoverSetRequest_answers ..
  · exact crossoverClearRequest_answers ..
  · exact trackRequest_answers ..
  · exact clearCutoffRequest_answers ..
  · exact linkSetRequest_answers ..
  · exact restartRequest_answers ..
  · exact refuse_answers ..
end

/-! ### The two lines (R108, R142) -/

variable (s)

theorem edits_handRx (buffer : List Byte) : Edits s { s with handRx := buffer } := .single (.buffers buffer s.sectionRx)

theorem edits_sectionRx (buffer : List Byte) : Edits s { s with sectionRx := buffer } :=
  .single (.buffers s.handRx buffer)

/-- A request is taken with room for its reply, or discarded (R144). -/
theorem onRequest_changes {take : State → State} (answers : ∀ u, Answers u (take u)) :
    Changes s (onRequest take s) := by
  have taken : Changes s s.handTaken := (edits_handRx s []).changes
  unfold onRequest
  dsimp only
  split
  · rename_i room
    exact taken.trans ((answers _).changes room)
  · exact taken

theorem routeFrame_changes (kind : Byte) (payload : List Byte) : Changes s (routeFrame kind payload s) := by
  have taken : Edits s s.handTaken := edits_handRx s []
  unfold routeFrame
  split
  · exact (taken.trans (routeSample_edits _ payload)).changes
  · split
    · split
      · exact onRequest_changes s fun u => requestByCode_answers u _ _ _
      · exact taken.changes
    · exact taken.changes

theorem receiveHand_changes (bytes : List Byte) : Changes s (receiveHand bytes s) := by
  induction bytes generalizing s with
  | nil => exact .refl
  | cons b rest ih =>
    unfold receiveHand
    split
    · exact (edits_handRx s _).changes.trans (ih _)
    · exact ((edits_handRx s _).changes.trans (routeFrame_changes _ _ _)).trans (ih _)

theorem routeReport_edits (r : Report) : Edits s (routeReport r s) := by
  cases r with
  | sighting x sensor p w => exact takeSighting_edits s x sensor p w
  | position x pos => exact takePosition_edits s x pos

theorem receiveSection_edits (bytes : List Byte) : Edits s (receiveSection bytes s) := by
  induction bytes generalizing s with
  | nil => exact .refl
  | cons b rest ih =>
    unfold receiveSection
    split
    · exact (edits_sectionRx s _).trans (ih _)
    · exact ((edits_sectionRx s _).trans (routeReport_edits _ _)).trans (ih _)

/-! ### Commands and steps -/

variable {s}

/-- A request command, taken or discarded, is a run of edits and replies. -/
theorem onRequest_next {take : State → State} (answers : ∀ u, Answers u (take u))
    (h : (Host.Outcome.next (onRequest take s) : Result) = .next t) : Changes s t :=
  Host.Outcome.next.inj h ▸ onRequest_changes s answers

theorem silenceExpiry_edits {h : EntryNo} (ht : exec (.silenceExpiry h) s = .next t) : Edits s t := by
  obtain rfl := Host.Outcome.next.inj ht
  split
  · split
    · split
      · exact loseHandset_edits s ‹_› _
      · exact .refl
    · exact .refl
  · exact .refl

theorem releaseExpiry_edits {h : EntryNo} (ht : exec (.releaseExpiry h) s = .next t) : Edits s t := by
  obtain rfl := Host.Outcome.next.inj ht
  split
  · split
    · split
      · exact releaseHandset_edits s h
      · exact .refl
    · exact .refl
    · exact .refl
  · exact .refl

theorem windowExpiry_edits {h : EntryNo} (ht : exec (.windowExpiry h) s = .next t) : Edits s t := by
  obtain rfl := Host.Outcome.next.inj ht
  split
  · split
    · exact closeWindow_edits s h .expired
    · exact .refl
  · exact .refl

theorem clearDeadlineExpiry_edits {x : CrossNo} {i : Fin 4} (ht : exec (.clearDeadlineExpiry x i) s = .next t) :
    Edits s t := by
  obtain rfl := Host.Outcome.next.inj ht
  split
  · split
    · exact removeEntry_edits s x _ _ _ _
    · exact .refl
  · exact .refl

theorem guardElapse_edits {x : CrossNo} (ht : exec (.guardElapse x) s = .next t) : Edits s t := by
  obtain rfl := Host.Outcome.next.inj ht
  split
  · exact elapseGuard_edits s x
  · exact .refl

theorem confirmDeadlineExpiry_edits {x : CrossNo} (ht : exec (.confirmDeadlineExpiry x) s = .next t) :
    Edits s t := by
  obtain rfl := Host.Outcome.next.inj ht
  split
  · split
    · exact enterFault_edits s x .confirmTimeout
    · exact .refl
  all_goals exact .refl

theorem faultLineAsserted_edits (ht : exec .faultLineAsserted s = .next t) : Edits s t := by
  have asserted : Edits s { s with faultLine := true } := edits_supply s s.track true
  obtain rfl := Host.Outcome.next.inj ht
  split
  · exact asserted
  · exact asserted.trans (enterCutoff_edits _)

theorem headFrame_edits (ht : exec .headFrame s = .next t) : Edits s t := by
  obtain rfl := Host.Outcome.next.inj ht
  split
  · exact edits_rail s (nextRound s) 0 false _
  · exact .refl

theorem driveFrame_edits {k : SlotNo} (ht : exec (.driveFrame k) s = .next t) : Edits s t := by
  obtain rfl := Host.Outcome.next.inj ht
  split
  · exact formDrive_edits s k
  · exact .refl

theorem gateFrame_edits (ht : exec .gateFrame s = .next t) : Edits s t := by
  obtain rfl := Host.Outcome.next.inj ht
  split
  · exact formGate_edits s 9
  · split
    · exact formGate_edits s 10
    · exact .refl

theorem codeFrame_edits (ht : exec .codeFrame s = .next t) : Edits s t := by
  obtain rfl := Host.Outcome.next.inj ht
  split
  · exact putFrame_edits s 11 _
  · exact .refl

/-- Every command is a run of edits and replies. -/
theorem exec_changes {c : Instr} (ht : exec c s = .next t) : Changes s t := by
  cases c with
  | sample payload =>
    obtain rfl := Host.Outcome.next.inj ht
    exact ((edits_handRx s []).trans (routeSample_edits _ payload)).changes
  | silenceExpiry h => exact (silenceExpiry_edits ht).changes
  | releaseExpiry h => exact (releaseExpiry_edits ht).changes
  | windowExpiry h => exact (windowExpiry_edits ht).changes
  | sighting x sensor p w =>
    obtain rfl := Host.Outcome.next.inj ht
    exact ((edits_sectionRx s []).trans (takeSighting_edits _ x sensor p w)).changes
  | clearDeadlineExpiry x i => exact (clearDeadlineExpiry_edits ht).changes
  | guardElapse x => exact (guardElapse_edits ht).changes
  | position x pos =>
    obtain rfl := Host.Outcome.next.inj ht
    exact ((edits_sectionRx s []).trans (takePosition_edits _ x pos)).changes
  | confirmDeadlineExpiry x => exact (confirmDeadlineExpiry_edits ht).changes
  | sectionFrameDiscard bytes =>
    obtain rfl := Host.Outcome.next.inj ht
    exact (receiveSection_edits s bytes).changes
  | sectionByteTimeout =>
    obtain rfl := Host.Outcome.next.inj ht
    exact (edits_sectionRx s []).changes
  | handLinkFrameDiscard bytes =>
    obtain rfl := Host.Outcome.next.inj ht
    exact receiveHand_changes s bytes
  | handLinkByteTimeout =>
    obtain rfl := Host.Outcome.next.inj ht
    exact (edits_handRx s []).changes
  | unknownRequest tag code args => exact onRequest_next (fun u => requestByCode_answers u tag args code) ht
  | status tag args => exact onRequest_next (fun u => statusRequest_answers u tag args) ht
  | readHandset tag args => exact onRequest_next (fun u => readHandsetRequest_answers u tag args) ht
  | readSlot tag args => exact onRequest_next (fun u => readSlotRequest_answers u tag args) ht
  | readCrossover tag args => exact onRequest_next (fun u => readCrossoverRequest_answers u tag args) ht
  | readWindows tag args => exact onRequest_next (fun u => readWindowsRequest_answers u tag args) ht
  | profileFirst tag args => exact onRequest_next (fun u => profileFirstRequest_answers u tag args) ht
  | profileSecond tag args => exact onRequest_next (fun u => profileSecondRequest_answers u tag args) ht
  | bind tag args => exact onRequest_next (fun u => bindRequest_answers u tag args) ht
  | unbind tag args => exact onRequest_next (fun u => unbindRequest_answers u tag args) ht
  | forget tag args => exact onRequest_next (fun u => forgetRequest_answers u tag args) ht
  | setPace tag args => exact onRequest_next (fun u => setPaceRequest_answers u tag args) ht
  | wish tag args => exact onRequest_next (fun u => wishRequest_answers u tag args) ht
  | beacon tag args => exact onRequest_next (fun u => beaconRequest_answers u tag args) ht
  | beaconClear tag args => exact onRequest_next (fun u => beaconClearRequest_answers u tag args) ht
  | tolerance tag args => exact onRequest_next (fun u => toleranceRequest_answers u tag args) ht
  | crossoverSet tag args => exact onRequest_next (fun u => crossoverSetRequest_answers u tag args) ht
  | crossoverClear tag args => exact onRequest_next (fun u => crossoverClearRequest_answers u tag args) ht
  | track tag args => exact onRequest_next (fun u => trackRequest_answers u tag args) ht
  | clearCutoff tag args => exact onRequest_next (fun u => clearCutoffRequest_answers u tag args) ht
  | linkSet tag args => exact onRequest_next (fun u => linkSetRequest_answers u tag args) ht
  | restart tag args => exact onRequest_next (fun u => restartRequest_answers u tag args) ht
  | powerOnReset asserted =>
    obtain rfl := Host.Outcome.next.inj ht
    exact .single (.edit (.poweredOn asserted))
  | faultLineAsserted => exact (faultLineAsserted_edits ht).changes
  | faultLineReleased =>
    obtain rfl := Host.Outcome.next.inj ht
    exact (edits_supply s s.track false).changes
  | headFrame => exact (headFrame_edits ht).changes
  | driveFrame k => exact (driveFrame_edits ht).changes
  | gateFrame => exact (gateFrame_edits ht).changes
  | codeFrame => exact (codeFrame_edits ht).changes
  | transmitterFrameEnd =>
    obtain rfl := Host.Outcome.next.inj ht
    exact .single (.edit .frameEnd)

/-- A step takes the front command off the queue and then makes edits and replies; with no command one millisecond
passes (R149). -/
theorem step_changes (ht : step s = .next t) : ∃ rest, Changes { s with pending := rest } t := by
  unfold step at ht
  split at ht
  · obtain rfl := Host.Outcome.next.inj ht
    exact ⟨s.pending, .single (.edit (.clock s.resetCause (s.time + 1)))⟩
  · exact ⟨_, exec_changes ht⟩

/-! ### The invariants every edit keeps -/

/-- Settles O6: a radio ID that an entry comes to hold is one it had, or a valid one that no entry holds. -/
theorem stepKeepsRadioIdsApart : Obligations.StepKeepsRadioIdsApart := by
  unfold Obligations.StepKeepsRadioIdsApart
  intro s t inv ht
  obtain ⟨rest, changes⟩ := step_changes ht
  exact changes.keep (P := RadioInv) Edit.radioInv (fun _ _ inv => inv) inv

/-- Settles O8: every value written is clamped, or one that was in range. -/
theorem stepKeepsTheRanges : Obligations.StepKeepsTheRanges := by
  unfold Obligations.StepKeepsTheRanges
  intro s t inv ht
  obtain ⟨rest, changes⟩ := step_changes ht
  exact changes.keep (P := RangeInv) Edit.rangeInv (fun _ _ inv => inv) inv

end Sys2Proof.Machine
end

section
/-! Profiles and pace slots: the two halves of a profile, SET-PACE and WISH (R18 to R20, R30, R31). -/

namespace Sys2Proof.Machine

variable (s : State) (tag : Byte)

/-- PROFILE-FIRST loads the holding buffer as clamped; its slot number is not read (R19). -/
theorem profileFirstRequest_loads (k db gainHi gainLo curve : Byte) :
    profileFirstRequest tag [k, db, gainHi, gainLo, curve] s = emit [okReply tag 0x10 []]
      { s with holding :=
        { db := min db.toNat 127, gain := min (be16 gainHi gainLo) 1023, curve := curveArg curve } } := by
  simp only [profileFirstRequest, holdingArgs, clamp_zero, answer_eq]

theorem profileFirstRequest_length {args : List Byte} (length : args.length ≠ 5) :
    profileFirstRequest tag args s = emit [refusal tag 0x10 .badLength []] s := by
  unfold profileFirstRequest
  split
  · simp at length
  · exact refuse_eq ..

/-- PROFILE-SECOND forms the pending profile from the buffer and its own values as clamped (R20). -/
theorem profileSecondRequest_forms (k : SlotNo) (ceil minrun rise decay policy : Byte) :
    profileSecondRequest tag [byte (k.val + 1), ceil, minrun, rise, decay, policy] s =
      emit [okReply tag 0x11 []] (s.setSlot k { s.slot k with
        pendingProfile := some
          { db := s.holding.db, gain := s.holding.gain, curve := s.holding.curve
            ceil := min ceil.toNat 63, minrun := min minrun.toNat 63
            rise := clamp 1 63 rise.toNat, decay := clamp 1 63 decay.toNat, policy := policyArg policy } }) := by
  simp only [profileSecondRequest, slotArg_byte, profileArgs, clamp_zero, answer_eq]

/-- Settles O21: each half is taken with room for its reply. -/
theorem profileRequestsLoadInTwoHalves : Obligations.ProfileRequestsLoadInTwoHalves := by
  unfold Obligations.ProfileRequestsLoadInTwoHalves
  refine ⟨fun s tag k db gainHi gainLo curve args room => ⟨?loads, fun length => ?length⟩,
    fun s tag ceil minrun rise decay policy k room => ?forms⟩
  case loads => exact request_taken room (profileFirstRequest_loads _ tag k db gainHi gainLo curve)
  case length => exact request_taken room (profileFirstRequest_length _ tag length)
  case forms => exact request_taken room (profileSecondRequest_forms _ tag k ceil minrun rise decay policy)

/-- SET-PACE makes a slot that is not bound PACE and leaves the rest of its record (R30). -/
theorem setPaceRequest_stores (step : Byte) {k : SlotNo} (unbound : ∀ h, (s.slot k).source ≠ .handset h) :
    setPaceRequest tag [byte (k.val + 1), step] s = emit [okReply tag 0x23 []]
      (s.setSlot k { s.slot k with source := .pace (min step.toNat 63) }) := by
  have free : ¬ (s.slot k).source.isHandset = true := fun h => (isHandset_iff.mp h).elim unbound
  simp only [setPaceRequest, slotArg_byte, if_neg free, clamp_zero, answer_eq]

/-- WISH sets the wish of a pace slot, whatever its policy (R31). -/
theorem wishRequest_stores (armed : Byte) {k : SlotNo} (pace : ∃ p, (s.slot k).source = .pace p) :
    wishRequest tag [byte (k.val + 1), armed] s =
      emit [okReply tag 0x24 []] (setWish k (flagArg armed) s) := by
  simp only [wishRequest, slotArg_byte, if_pos (isPace_iff.mpr pace), answer_eq]

/-- A flag argument is no exactly for the byte 0 (R31, R104). -/
theorem flagArg_eq (b : Byte) : flagArg b = (b.toNat != 0) := by
  rw [Bool.eq_iff_iff]
  simp [flagArg, BitVec.toNat_eq]

/-- Settles O24: each request is taken with room for its reply. -/
theorem paceSlotsAreSetByTheConsole : Obligations.PaceSlotsAreSetByTheConsole := by
  unfold Obligations.PaceSlotsAreSetByTheConsole
  refine ⟨fun s tag step k room unbound => ?pace, fun s tag armed k p room pace => ?wish⟩
  case pace => exact request_taken room (setPaceRequest_stores _ tag step unbound)
  case wish =>
    refine request_taken room ((wishRequest_stores s.handTaken tag armed ⟨p, pace⟩).trans ?_)
    rw [flagArg_eq]
    rfl

end Sys2Proof.Machine
end

section
/-! A classified exit (R78, R79, R81, R86, R88). -/

namespace Sys2Proof.Machine

variable (s : State)

theorem sensorArg_code (sensor : ExitSensor) : sensorArg sensor.code = some (.exit sensor) := by
  cases sensor <;> rfl

/-- A crossover that is neither DISABLED nor DARK takes sightings (R64, R69). -/
theorem active_of_ne {c : CrossState} (enabled : c ≠ .disabled) (lit : c ≠ .dark) : c.active = true := by
  cases c <;> simp_all [CrossState.active]

/-- An outcome that meets every row of Table 5-5 is the one the exit is judged by (R79). -/
theorem exitOutcome_eq {e : ZoneEntry} {sensor : ExitSensor} {outcome : PassageOutcome}
    (changed : sensor = .xd → e.decision ≠ .none → outcome = .changed)
    (forced : sensor = .xd → e.decision = .none → outcome = .forced)
    (missed : sensor = .xs → e.decision = .honored → outcome = .missed)
    (denied : sensor = .xs → ∀ r, e.decision = .denied r → outcome = .denied r)
    (stayed : sensor = .xs → e.decision = .none → outcome = .stayed) : exitOutcome e sensor = outcome := by
  unfold exitOutcome
  cases sensor with
  | xd =>
    cases hd : e.decision with
    | none => exact (forced rfl hd).symm
    | honored => exact (changed rfl (by simp [hd])).symm
    | denied r => exact (changed rfl (by simp [hd])).symm
  | xs =>
    cases hd : e.decision with
    | none => exact (stayed rfl hd).symm
    | honored => exact (missed rfl hd).symm
    | denied r => exact (denied rfl r hd).symm

/-- The slot record to which an outcome is handed: CHANGED disarms a SINGLE wish (R25). -/
def Slot.judged (outcome : PassageOutcome) (r : Slot) : Slot :=
  { r with wish := if outcome = .changed ∧ r.active.policy = .single then false else r.wish }

theorem handChanged_some (k : SlotNo) : handChanged (some k) s = s.setSlot k ((s.slot k).judged .changed) := by
  simp only [handChanged, Slot.judged, true_and]
  split
  · rfl
  · exact (setSlot_slot s k).symm

/-- The passage of a classified entry: the record, the outcome at the slot, and LANE unless STAYED (R81, R86,
R88). -/
theorem completePassage_classified (x : CrossNo) {e : ZoneEntry} {k : SlotNo} (he : e.slot = some k)
    (rest : List ZoneEntry) (outcome : PassageOutcome) (exit : Option (Time × ExitSensor)) :
    completePassage x e rest outcome exit s =
      emit (if outcome = .stayed then [] else [.notice (.lane x (some k) outcome)])
        ((s.setCross x ((s.cross x).passed rest (e.record outcome exit))).setSlot k
          ((s.slot k).judged outcome)) := by
  rw [completePassage_eq, he]
  congr 1
  dsimp only
  split
  · rename_i h
    subst h
    exact handChanged_some _ k
  · rename_i h
    have : (s.slot k).judged outcome = s.slot k := by simp [Slot.judged, h]
    rw [this]
    exact (setSlot_slot _ k).symm

/-- A classified exit with an entry of its slot that is not the queue's last (R78, R79, R81). -/
theorem takeExit_classified {x : CrossNo} {sensor : ExitSensor} {k : SlotNo} {e : ZoneEntry}
    {pre post : List ZoneEntry} (hz : (s.cross x).zone = pre ++ e :: post) (he : e.slot = some k)
    (first : NotInZone pre (some k)) (remain : pre ++ post ≠ []) :
    takeExit x sensor (some k) s =
      completePassage x e (pre ++ post) (exitOutcome e sensor) (some (s.time, sensor)) s := by
  obtain ⟨found, left⟩ := find_slot hz he first
  simp only [takeExit, found, left, removeEntry]
  exact if_neg (by simpa using remain)

/-- Without an entry of its slot a classified exit is ignored (R78). -/
theorem takeExit_ignored {x : CrossNo} (sensor : ExitSensor) {k : SlotNo}
    (absent : NotInZone (s.cross x).zone (some k)) : takeExit x sensor (some k) s = s := by
  simp only [takeExit, find_slot_none absent]

/-- Settles O47: the sighting is classified to the slot and taken as an exit by the crossover alone. -/
theorem classifiedExitIsJudged : Obligations.ClassifiedExitIsJudged := by
  unfold Obligations.ClassifiedExitIsJudged
  intro s x p w k c sensor beacons good measures quiet hc enabled lit
  subst hc
  have taken : exec (.sighting x sensor.code p w) s = .next (takeExit x sensor (some k) s.reportTaken) := by
    rw [sighting_of_noPairing s (sensorArg_code sensor) good (classify_of_measures beacons measures) quiet]
    exact congrArg _ (if_pos (active_of_ne enabled lit))
  refine ⟨fun e pre post outcome hz remain he first changed forced missed denied stayed => ?_, fun absent => ?_⟩
  · rw [taken, takeExit_classified s.reportTaken hz he first remain,
      exitOutcome_eq changed forced missed denied stayed, completePassage_classified s.reportTaken x he]
    exact ⟨_, rfl, rfl⟩
  · rw [taken, takeExit_ignored s.reportTaken sensor absent]

end Sys2Proof.Machine
end

section
/-! BIND as a slot taken from those that had it and then bound (R27, R28, R49). -/

namespace Sys2Proof.Machine

variable (s : State)

/-! ### Entries -/

/-- What an entry and its replacement have in common, every entry keeps. -/
theorem setEntry_kept {α : Type} {f : Entry → α} {h : EntryNo} {e : Entry} (kept : f e = f (s.entry h)) (g : EntryNo) :
    f ((s.setEntry h e).entry g) = f (s.entry g) := by
  rw [entry_setEntry]
  split
  · rename_i hg
    rw [kept, hg]
  · rfl

theorem withBound_absent_boundSlot (e : Entry) : (e.withBound none).boundSlot = none := by
  rcases e with _ | e <;> rfl

/-! ### The binding of a slot broken -/

/-- The binding of slot `k`, if it has one, is broken. -/
def breakBindingAt (k : SlotNo) (s : State) : State :=
  match (s.slot k).source with
  | .handset g => breakBinding g k s
  | .pace _ => s
  | .none => s

theorem breakBindingAt_handset {g : EntryNo} {k : SlotNo} (hs : (s.slot k).source = .handset g) :
    breakBindingAt k s = breakBinding g k s := by
  simp only [breakBindingAt, hs]

theorem breakBindingAt_unbound {k : SlotNo} (unbound : ∀ g, (s.slot k).source ≠ .handset g) :
    breakBindingAt k s = s := by
  unfold breakBindingAt
  split
  · exact absurd ‹_› (unbound _)
  · rfl
  · rfl

theorem breakBinding_slot (h : EntryNo) (k j : SlotNo) :
    (breakBinding h k s).slot j = if k = j then (s.slot k).freed else s.slot j := by
  rw [breakBinding_eq, setEntry_slot, slot_setSlot]

theorem breakBinding_entry (h g : EntryNo) (k : SlotNo) :
    (breakBinding h k s).entry g = if h = g then (s.entry h).withBound none else s.entry g := by
  rw [breakBinding_eq, entry_setEntry, setSlot_entry]

/-- No binding of the slot is left. -/
theorem breakBindingAt_source (k : SlotNo) (g : EntryNo) : ((breakBindingAt k s).slot k).source ≠ .handset g := by
  unfold breakBindingAt
  split
  · simp [breakBinding_slot, Slot.freed]
  · simp [*]
  · simp [*]

/-- A binding made at a slot writes all that breaking the slot's binding writes there (R27, R28). -/
theorem makeBinding_breakBinding (h g : EntryNo) (k : SlotNo) :
    makeBinding h k (breakBinding g k s) = makeBinding h k (setBound g none s) := by
  simp only [makeBinding_eq, breakBinding_eq, setSlot_setEntry, setSlot_setSlot, setEntry_slot, slot_setSlot_self]
  rfl

/-- A binding made at an entry writes the bound slot anew. -/
theorem makeBinding_setBound_self (h : EntryNo) (k : SlotNo) :
    makeBinding h k (setBound h none s) = makeBinding h k s := by
  simp only [makeBinding_eq, setBound, setSlot_setEntry, setEntry_setEntry, setEntry_slot, entry_setEntry_self,
    withBound_isLost, withBound_withBound]

/-! ### A window closed (R40) -/

/-- Entry `h`'s window gone from the list and its open window field no (R40 ①, ②). -/
def windowClosed (h : EntryNo) (s : State) : State :=
  { s with windows := otherWindows h s }.setEntry h ((s.entry h).withWindow false)

@[simp] theorem windowClosed_slot (h : EntryNo) (k : SlotNo) : (windowClosed h s).slot k = s.slot k := rfl

theorem windowClosed_entry (h g : EntryNo) :
    (windowClosed h s).entry g = if h = g then (s.entry h).withWindow false else s.entry g :=
  entry_setEntry _ g h _

@[simp] theorem windowClosed_radio (h g : EntryNo) : ((windowClosed h s).entry g).radio = (s.entry g).radio :=
  setEntry_kept _ (withWindow_radio _ false) g

@[simp] theorem windowClosed_boundSlot (h g : EntryNo) :
    ((windowClosed h s).entry g).boundSlot = (s.entry g).boundSlot :=
  setEntry_kept _ (withWindow_boundSlot _ false) g

@[simp] theorem windowClosed_isLost (h g : EntryNo) : ((windowClosed h s).entry g).isLost = (s.entry g).isLost :=
  setEntry_kept _ (withWindow_isLost _ false) g

theorem otherWindows_of_none {h : EntryNo} (held : hasWindow h s = false) : otherWindows h s = s.windows := by
  rw [otherWindows, List.filter_eq_self]
  intro w hw
  have := List.any_eq_false.mp held w hw
  simpa using this

/-- A window closed by its open window field leaves the list without it either way (R36). -/
theorem closeIfOpen_windowClosed {h : EntryNo} (held : (s.entry h).window = hasWindow h s) {reason : CloseReason}
    (noticed : reason ≠ .bound) : closeIfOpen h reason s =
      emit (if (s.entry h).window then closeOutputs s h reason else []) (windowClosed h s) := by
  rw [closeIfOpen_eq s noticed, windowClosed]
  split
  · rfl
  · rename_i hw
    rw [otherWindows_of_none s (held ▸ Bool.eq_false_iff.mpr hw)]

/-! ### A slot taken from the handset that had it (R49 ②, ③) -/

/-- What BIND sends to the handset that had the slot (R49 ③). -/
def takenOutputs (s : State) (h : EntryNo) (k : SlotNo) : List Output :=
  match (s.slot k).source with
  | .handset g => if g = h then [] else echoOutput s g .released
  | .pace _ => []
  | .none => []

/-- Taking a slot from another handset and then binding it is breaking the slot's binding and binding it. -/
theorem makeBinding_takeFromOther (h : EntryNo) (k : SlotNo) :
    makeBinding h k (takeFromOther h k s) = emit (takenOutputs s h k) (makeBinding h k (breakBindingAt k s)) := by
  cases hs : (s.slot k).source with
  | handset g =>
    rw [breakBindingAt_handset s hs, makeBinding_breakBinding]
    by_cases hg : g = h
    · simp [takeFromOther, takenOutputs, hs, hg, makeBinding_setBound_self]
    · have echo : echoOutput (setBound g none s) g .released = echoOutput s g .released :=
        echoOutput_of_radio (by simp [setBound]) _
      simp [takeFromOther, takenOutputs, hs, hg, echoTo_eq, echo]
  | pace p => simp [takeFromOther, takenOutputs, breakBindingAt, hs]
  | none => simp [takeFromOther, takenOutputs, breakBindingAt, hs]

/-- Slot `k` bound to entry `h` after the bindings that both had are broken (R27, R28). -/
def boundAnew (h : EntryNo) (k : SlotNo) (s : State) : State :=
  makeBinding h k (breakBindingAt k (breakBindingOf h s))

/-- A handset bound to the slot already has it as the slot's source, so its binding is broken once (R17). -/
theorem breakBindingAt_breakOther {h : EntryNo} {k : SlotNo}
    (agrees : (s.slot k).source = .handset h ↔ (s.entry h).boundSlot = some k) :
    breakBindingAt k (breakOther h k s) = breakBindingAt k (breakBindingOf h s) := by
  unfold breakOther breakBindingOf
  cases hb : (s.entry h).boundSlot with
  | none => rfl
  | some j =>
    by_cases hj : j = k
    · subst hj
      have broken : breakBindingAt j (breakBinding h j s) = breakBinding h j s :=
        breakBindingAt_unbound _ (by simp [breakBinding_slot, Slot.freed])
      simp only [if_pos, broken]
      exact breakBindingAt_handset s (agrees.mpr hb)
    · simp only [if_neg hj]

theorem breakOther_source (h : EntryNo) (k : SlotNo) :
    ((breakOther h k s).slot k).source = (s.slot k).source := by
  unfold breakOther
  split
  · split
    · rfl
    · rw [breakBinding_slot, if_neg ‹_›]
  · rfl

theorem breakOther_radio (h g : EntryNo) (k : SlotNo) :
    ((breakOther h k s).entry g).radio = (s.entry g).radio := by
  unfold breakOther
  split
  · split
    · rfl
    · exact setEntry_kept _ (withBound_radio _ none) g
  · rfl

theorem takenOutputs_congr {s t : State} {h : EntryNo} {k : SlotNo}
    (source : (t.slot k).source = (s.slot k).source) (radio : ∀ g, (t.entry g).radio = (s.entry g).radio) :
    takenOutputs t h k = takenOutputs s h k := by
  simp only [takenOutputs, source, echoOutput_of_radio (radio _)]

/-! ### The entries and slots bound anew -/

theorem breakBindingOf_entry (h g : EntryNo) :
    (breakBindingOf h s).entry g = if h = g then (s.entry h).withBound none else s.entry g := by
  rw [breakBindingOf_eq, entry_setEntry, atSlot_entry]

theorem breakBindingOf_slot (h : EntryNo) (k : SlotNo) :
    (breakBindingOf h s).slot k = if (s.entry h).boundSlot = some k then (s.slot k).freed else s.slot k := by
  rw [breakBindingOf_eq, setEntry_slot, atSlot_slot]

theorem breakBindingAt_entry (k : SlotNo) (g : EntryNo) :
    (breakBindingAt k s).entry g =
      if (s.slot k).source = .handset g then (s.entry g).withBound none else s.entry g := by
  unfold breakBindingAt
  split
  · rename_i i hs
    rw [breakBinding_entry, hs]
    simp only [Source.handset.injEq]
    split
    · rename_i hi
      rw [hi]
    · rfl
  · simp [*]
  · simp [*]

theorem breakBindingAt_slot (k j : SlotNo) : (breakBindingAt k s).slot j =
    if k = j ∧ ∃ g, (s.slot k).source = .handset g then (s.slot k).freed else s.slot j := by
  unfold breakBindingAt
  split <;> simp [breakBinding_slot, *]

/-- A slot record bound to entry `h` (R27). -/
def Slot.boundTo (h : EntryNo) (lost : Bool) (r : Slot) : Slot :=
  { r with source := .handset h, wish := false, failsafe := lost }

theorem makeBinding_slot (h : EntryNo) (k j : SlotNo) : (makeBinding h k s).slot j =
    if k = j then (s.slot k).boundTo h (s.entry h).isLost else s.slot j := by
  rw [makeBinding_eq, setEntry_slot, slot_setSlot]
  rfl

theorem makeBinding_entry (h g : EntryNo) (k : SlotNo) : (makeBinding h k s).entry g =
    if h = g then (s.entry h).withBound (some k) else s.entry g := by
  rw [makeBinding_eq, entry_setEntry, setSlot_entry]

section
variable (h : EntryNo) (k : SlotNo)

theorem boundAnew_frame : boundAnew h k s =
    { s with handsets := (boundAnew h k s).handsets, slots := (boundAnew h k s).slots } := by
  have broken : breakBindingAt k (breakBindingOf h s) = { s with
      handsets := (breakBindingAt k (breakBindingOf h s)).handsets
      slots := (breakBindingAt k (breakBindingOf h s)).slots } := by
    unfold breakBindingAt breakBindingOf
    split <;> split <;> rfl
  unfold boundAnew
  generalize breakBindingAt k (breakBindingOf h s) = t at broken
  rw [broken]
  rfl

/-- With both bindings broken the entry has none. -/
theorem bindingsBroken_entry_self :
    (breakBindingAt k (breakBindingOf h s)).entry h = (s.entry h).withBound none := by
  rw [breakBindingAt_entry, breakBindingOf_entry, if_pos rfl]
  split <;> simp only [withBound_withBound]

theorem boundAnew_entry_self : (boundAnew h k s).entry h = (s.entry h).withBound (some k) := by
  rw [boundAnew, makeBinding_entry, if_pos rfl, bindingsBroken_entry_self, withBound_withBound]

/-- Of the other entries the one bound to the slot loses it (R28, R49 ③). -/
theorem boundAnew_entry_of_ne (agrees : BindingAgrees s) {g : EntryNo} (hg : g ≠ h) :
    (boundAnew h k s).entry g =
      if (s.entry g).boundSlot = some k then (s.entry g).withBound none else s.entry g := by
  have source : ((breakBindingOf h s).slot k).source = .handset g ↔ (s.entry g).boundSlot = some k := by
    rw [breakBindingOf_slot, ← agrees g k]
    split
    · rename_i hb
      have : (s.slot k).source = .handset h := (agrees h k).mpr hb
      simp [Slot.freed, this, hg.symm]
    · rfl
  rw [boundAnew, makeBinding_entry, if_neg hg.symm, breakBindingAt_entry, breakBindingOf_entry, if_neg hg.symm]
  simp only [source]

/-- The slot bound anew: what it held of a binding is overwritten (R27). -/
theorem boundAnew_slot_self : (boundAnew h k s).slot k = (s.slot k).boundTo h (s.entry h).isLost := by
  rw [boundAnew, makeBinding_slot, if_pos rfl, bindingsBroken_entry_self, withBound_isLost, breakBindingAt_slot,
    breakBindingOf_slot]
  split <;> split <;> rfl

/-- Of the other slots the one the entry had is freed (R28, R49 ②). -/
theorem boundAnew_slot_of_ne {j : SlotNo} (hj : j ≠ k) :
    (boundAnew h k s).slot j = if (s.entry h).boundSlot = some j then (s.slot j).freed else s.slot j := by
  rw [boundAnew, makeBinding_slot, if_neg hj.symm, breakBindingAt_slot, if_neg (fun both => hj both.1.symm),
    breakBindingOf_slot]
end

/-! ### BIND -/

theorem emit_boundAnew (o : List Output) (h : EntryNo) (k : SlotNo) :
    boundAnew h k (emit o s) = emit o (boundAnew h k s) := by
  have broken (t : State) : breakBindingAt k (emit o t) = emit o (breakBindingAt k t) := by
    simp only [breakBindingAt, emit_slot]
    split <;> rfl
  rw [boundAnew, emit_breakBindingOf, broken, emit_makeBinding, boundAnew]

/-- The slot taken from those that had it and then bound (R49 ② to ④). -/
theorem makeBinding_taken {h : EntryNo} {k : SlotNo}
    (agrees : (s.slot k).source = .handset h ↔ (s.entry h).boundSlot = some k) :
    makeBinding h k (takeFromOther h k (breakOther h k s)) = emit (takenOutputs s h k) (boundAnew h k s) := by
  rw [makeBinding_takeFromOther, breakBindingAt_breakOther s agrees, boundAnew,
    takenOutputs_congr (breakOther_source s h k) fun g => breakOther_radio s h g k]

/-- BIND (R49): the window closes SUPERSEDED, the handset that had the slot is released, and the entry is bound. -/
theorem bindHandset_eq (inv : BindingInv s) (h : EntryNo) (k : SlotNo) :
    bindHandset h k s = emit
      ((if (s.entry h).window then closeOutputs s h .superseded else []) ++
        (takenOutputs s h k ++ echoOutput s h (.bound k)))
      (boundAnew h k (windowClosed h s)) := by
  obtain ⟨⟨-, -, held⟩, agrees, -, -⟩ := inv
  have bound (o : List Output) := makeBinding_taken (emit o (windowClosed h s)) (h := h) (k := k)
    ((windowClosed_boundSlot s h h).symm ▸ agrees h k)
  have taken (o : List Output) : takenOutputs (emit o (windowClosed h s)) h k = takenOutputs s h k :=
    takenOutputs_congr rfl (windowClosed_radio s h)
  have echo : echoOutput (boundAnew h k (windowClosed h s)) h (.bound k) = echoOutput s h (.bound k) :=
    echoOutput_of_radio (by rw [boundAnew_entry_self, withBound_radio, windowClosed_radio]) _
  unfold bindHandset
  rw [closeIfOpen_windowClosed s (held h) (by decide)]
  generalize (if (s.entry h).window then closeOutputs s h .superseded else []) = closed
  dsimp only
  rw [bound, taken, echoTo_eq, echoOutput_emit, emit_boundAnew, echoOutput_emit, echo, emit_emit, emit_emit]

/-- Settles O22: the state BIND leaves is the slot bound anew after the window is closed. -/
theorem bindTakesTheSlot : Obligations.BindTakesTheSlot := by
  unfold Obligations.BindTakesTheSlot
  intro s tag h k e room inv he unpaced
  have ⟨_, bindings, _⟩ := inv
  have agrees : BindingAgrees (windowClosed h s.handTaken) := fun g j =>
    (windowClosed_boundSlot s.handTaken h g).symm ▸ bindings g j
  have taken : exec (.bind tag [byte h.val, byte (k.val + 1)]) s =
      .next (emit [okReply tag 0x20 []] (bindHandset h k s.handTaken)) := by
    have enrolled : ¬ (s.handTaken.entry h).isNone = true := by simp [he]
    have free : ¬ (s.handTaken.slot k).source.isPace = true := fun hp => (isPace_iff.mp hp).elim unpaced
    refine request_taken room ?_
    simp only [bindRequest, entryArg_byte, slotArg_byte, if_neg enrolled, if_neg free, answer_eq]
  rw [taken, bindHandset_eq s.handTaken inv, emit_emit]
  refine ⟨boundAnew h k (windowClosed h s.handTaken), ?outputs, ?frame, ?slot, fun j hj => ?slots, ?entry,
    fun g hg => ?entries⟩
  case outputs =>
    rw [echoOutput_some s.handTaken he, List.append_assoc, List.append_assoc, List.append_assoc]
    rfl
  case frame => rw [boundAnew_frame]; rfl
  case slot =>
    rw [boundAnew_slot_self, windowClosed_slot, windowClosed_isLost]
    rfl
  case slots =>
    rw [boundAnew_slot_of_ne _ h k hj, windowClosed_boundSlot, windowClosed_slot, handTaken_entry, he, boundSlot_some]
    rfl
  case entry =>
    rw [boundAnew_entry_self, windowClosed_entry, if_pos rfl]
    rfl
  case entries =>
    rw [boundAnew_entry_of_ne _ h k agrees hg, windowClosed_boundSlot, windowClosed_entry, if_neg hg.symm]
    rfl

end Sys2Proof.Machine
end

section
/-! The agreement of windows, bindings, failsafe flags and disarmed NONE slots, kept by each operation on entries, slots
and windows (R17, R26, R36). -/

namespace Sys2Proof.Machine

variable {s : State}

/-! ### What the agreement reads -/

/-- The three tables that windows and bindings are kept in. -/
def State.bindings (s : State) : Vector Entry 12 × List Window × Vector Slot 8 := (s.handsets, s.windows, s.slots)

/-- Record `r` fits as slot `k`'s: its source names the entry that is bound to `k`, its failsafe flag says that this
entry is LOST, and without a source it is disarmed (R17, R26). -/
def SlotFits (s : State) (k : SlotNo) (r : Slot) : Prop :=
  (∀ h, r.source = .handset h ↔ (s.entry h).boundSlot = some k) ∧
  (∀ h, r.source = .handset h → r.failsafe = (s.entry h).isLost) ∧
  ((∀ h, r.source ≠ .handset h) → r.failsafe = false) ∧
  (r.source = .none → r.wish = false)

theorem failsafeAgrees_iff : FailsafeAgrees s ↔ ∀ k,
    (∀ h, (s.slot k).source = .handset h → (s.slot k).failsafe = (s.entry h).isLost) ∧
    ((∀ h, (s.slot k).source ≠ .handset h) → (s.slot k).failsafe = false) :=
  forall_congr' fun k => by cases (s.slot k).source <;> simp

/-- The agreement is the windows' own, and a record that fits for each slot. -/
theorem bindingInv_iff : BindingInv s ↔ WindowInv s ∧ ∀ k, SlotFits s k (s.slot k) := by
  refine ⟨fun ⟨windows, agrees, failsafe, disarmed⟩ => ⟨windows, fun k => ?_⟩, fun ⟨windows, fits⟩ => ?_⟩
  · obtain ⟨lost, clear⟩ := failsafeAgrees_iff.mp failsafe k
    exact ⟨fun h => agrees h k, lost, clear, disarmed k⟩
  · refine ⟨windows, fun h k => ?_, failsafeAgrees_iff.mpr fun k => ?_, fun k => ?_⟩
    all_goals obtain ⟨agrees, lost, clear, disarmed⟩ := fits k
    · exact agrees h
    · exact ⟨lost, clear⟩
    · exact disarmed

/-- The agreement reads the three tables alone. -/
theorem bindingInv_congr {t : State} (same : t.bindings = s.bindings) (inv : BindingInv s) : BindingInv t := by
  obtain ⟨handsets, windows, slots⟩ : t.handsets = s.handsets ∧ t.windows = s.windows ∧ t.slots = s.slots := by
    simpa [State.bindings] using same
  have entry (h : EntryNo) : t.entry h = s.entry h := by rw [State.entry, handsets]; rfl
  have slot (k : SlotNo) : t.slot k = s.slot k := by rw [State.slot, slots]; rfl
  simpa only [BindingInv, WindowInv, BindingAgrees, FailsafeAgrees, NoneDisarmed, hasWindow, entry, slot, windows]
    using inv

theorem slotFits_of_bindingInv (inv : BindingInv s) (k : SlotNo) : SlotFits s k (s.slot k) := by
  obtain ⟨-, slots⟩ := bindingInv_iff.mp inv
  exact slots k

/-- The slot that an entry is bound to has this entry as its source, and the other way round (R17). -/
theorem source_iff (inv : BindingInv s) {h : EntryNo} {k : SlotNo} :
    (s.slot k).source = .handset h ↔ (s.entry h).boundSlot = some k := by
  obtain ⟨agrees, -⟩ := slotFits_of_bindingInv inv k
  exact agrees h

/-! ### Slot records -/

/-- A slot record that keeps source and failsafe flag, and arms no NONE slot. -/
def SameBinding (r q : Slot) : Prop :=
  q.source = r.source ∧ q.failsafe = r.failsafe ∧ (r.source = .none → r.wish = false → q.wish = false)

theorem setSlot_bindingInv_of_fits {k : SlotNo} {r : Slot} (inv : BindingInv s) (fits : SlotFits s k r) :
    BindingInv (s.setSlot k r) := by
  obtain ⟨windows, slots⟩ := bindingInv_iff.mp inv
  refine bindingInv_iff.mpr ⟨windows, fun j => ?_⟩
  rw [slot_setSlot]
  split
  · rename_i hj
    exact hj ▸ fits
  · exact slots j

theorem setSlot_bindingInv {k : SlotNo} {r : Slot} (same : SameBinding (s.slot k) r) (inv : BindingInv s) :
    BindingInv (s.setSlot k r) := by
  obtain ⟨source, failsafe, disarmed⟩ := same
  obtain ⟨agrees, lost, clear, unarmed⟩ := slotFits_of_bindingInv inv k
  refine setSlot_bindingInv_of_fits inv ⟨?_, ?_, ?_, ?_⟩
  · simpa only [source] using agrees
  · simpa only [source, failsafe] using lost
  · simpa only [source, failsafe] using clear
  · exact fun hs => disarmed (source ▸ hs) (unarmed (source ▸ hs))

theorem setWish_false_bindingInv (k : SlotNo) (inv : BindingInv s) : BindingInv (setWish k false s) :=
  setSlot_bindingInv ⟨rfl, rfl, fun _ _ => rfl⟩ inv

theorem setWish_bindingInv {k : SlotNo} (sourced : (s.slot k).source ≠ .none) (armed : Bool) (inv : BindingInv s) :
    BindingInv (setWish k armed s) :=
  setSlot_bindingInv ⟨rfl, rfl, fun hs => absurd hs sourced⟩ inv

theorem handChanged_bindingInv (slot : Option SlotNo) (inv : BindingInv s) : BindingInv (handChanged slot s) := by
  unfold handChanged
  split
  · split
    · exact setWish_false_bindingInv _ inv
    · exact inv
  · exact inv

/-- A slot that no handset has comes to have another source without one. -/
theorem setSlot_unbound_bindingInv {k : SlotNo} {r : Slot} (unbound : ∀ h, (s.slot k).source ≠ .handset h)
    (source : ∀ h, r.source ≠ .handset h) (failsafe : r.failsafe = (s.slot k).failsafe)
    (disarmed : r.source = .none → r.wish = false) (inv : BindingInv s) : BindingInv (s.setSlot k r) := by
  obtain ⟨agrees, -, clear, -⟩ := slotFits_of_bindingInv inv k
  exact setSlot_bindingInv_of_fits inv ⟨fun h => by simp [source h, ← agrees h, unbound h],
    fun h hs => absurd hs (source h), fun _ => failsafe ▸ clear unbound, disarmed⟩

/-! ### Entries -/

/-- An entry replaced together with the record of its slot: the bound slot is kept, the window field agrees with the
list, and the slot's failsafe flag comes to say whether the entry is LOST (R26). -/
theorem setEntry_atSlot_bindingInv {h : EntryNo} {e : Entry} {f : Slot → Slot}
    (bound : e.boundSlot = (s.entry h).boundSlot) (window : e.window = (s.entry h).window)
    (same : ∀ r, (f r).source = r.source) (lost : ∀ r, r.failsafe = (s.entry h).isLost → (f r).failsafe = e.isLost)
    (inv : BindingInv s) : BindingInv (atSlot e.boundSlot f (s.setEntry h e)) := by
  obtain ⟨⟨few, nodup, fields⟩, slots⟩ := bindingInv_iff.mp inv
  have entry (g : EntryNo) : (atSlot e.boundSlot f (s.setEntry h e)).entry g = if h = g then e else s.entry g := by
    rw [atSlot_entry, entry_setEntry]
  have bounds (g : EntryNo) : ((atSlot e.boundSlot f (s.setEntry h e)).entry g).boundSlot = (s.entry g).boundSlot := by
    rw [atSlot_entry]
    exact setEntry_kept s bound g
  have listed : (atSlot e.boundSlot f (s.setEntry h e)).windows = s.windows := by rw [atSlot_frame]; rfl
  refine bindingInv_iff.mpr ⟨⟨?_, ?_, fun g => ?_⟩, fun k => ?_⟩
  · rw [listed]; exact few
  · rw [listed]; exact nodup
  · rw [entry, hasWindow, listed]
    split
    · rename_i hg
      rw [window, ← hg]
      exact fields h
    · exact fields g
  · obtain ⟨agrees, flag, clear, unarmed⟩ := slots k
    rw [atSlot_slot, setEntry_slot]
    simp only [SlotFits, bounds]
    split
    · rename_i hk
      have source : (s.slot k).source = .handset h := (agrees h).mpr (bound ▸ hk)
      refine ⟨fun g => (same _).symm ▸ agrees g, fun g hg => ?_, fun none => ?_, fun none => ?_⟩
      · obtain rfl : h = g := by simpa [same, source] using hg
        rw [entry, if_pos rfl]
        exact lost _ (flag h source)
      · exact absurd ((same _).trans source) (none h)
      · simp [same, source] at none
    · rename_i hk
      refine ⟨agrees, fun g hg => ?_, clear, unarmed⟩
      have : h ≠ g := by
        rintro rfl
        exact hk (bound ▸ (agrees h).mp hg)
      rw [entry, if_neg this]
      exact flag g hg

/-- An entry replaced by one with its bound slot and window field, and LOST as it was. -/
theorem setEntry_bindingInv {h : EntryNo} {e : Entry} (bound : e.boundSlot = (s.entry h).boundSlot)
    (window : e.window = (s.entry h).window) (lost : e.isLost = (s.entry h).isLost) (inv : BindingInv s) :
    BindingInv (s.setEntry h e) := by
  have kept := setEntry_atSlot_bindingInv (f := id) bound window (fun _ => rfl) (fun r hr => hr.trans lost.symm) inv
  cases hb : e.boundSlot with
  | none => rwa [hb] at kept
  | some k => rw [hb, atSlot_some, id, setSlot_slot] at kept; exact kept

/-- An entry without a bound slot replaced by another without one. -/
theorem setEntry_unbound_bindingInv {h : EntryNo} {e : Entry} (unbound : (s.entry h).boundSlot = none)
    (bound : e.boundSlot = none) (window : e.window = (s.entry h).window) (inv : BindingInv s) :
    BindingInv (s.setEntry h e) := by
  have kept := setEntry_atSlot_bindingInv (f := fun r => { r with failsafe := e.isLost })
    (bound.trans unbound.symm) window (fun _ => rfl) (fun _ _ => rfl) inv
  rwa [bound] at kept

/-! ### Windows -/

/-- The other windows hold one for an entry exactly when it is another entry's. -/
theorem any_otherWindows (h g : EntryNo) :
    ((otherWindows h s).any fun w => w.entry == g) = if h = g then false else hasWindow g s := by
  rw [otherWindows, List.any_filter, hasWindow]
  split
  · rename_i hg
    subst hg
    simp
  · rename_i hg
    congr 1
    funext w
    by_cases hw : w.entry = g
    · simp [hw, Ne.symm hg]
    · simp [hw]

/-- A window that closes leaves the list and the field together (R36, R40). -/
theorem windowClosed_bindingInv (h : EntryNo) (inv : BindingInv s) : BindingInv (windowClosed h s) := by
  obtain ⟨⟨few, nodup, fields⟩, slots⟩ := bindingInv_iff.mp inv
  refine bindingInv_iff.mpr ⟨⟨?_, ?_, fun g => ?_⟩, fun k => ?_⟩
  · exact (List.length_filter_le _ _).trans few
  · exact nodup.sublist ((List.filter_sublist).map _)
  · rw [windowClosed_entry, hasWindow, show (windowClosed h s).windows = otherWindows h s from rfl, any_otherWindows]
    split
    · exact withWindow_window_false _
    · exact fields g
  · simpa only [SlotFits, windowClosed_slot, windowClosed_boundSlot, windowClosed_isLost] using slots k

theorem closeWindow_bindingInv (h : EntryNo) (reason : CloseReason) (inv : BindingInv s) :
    BindingInv (closeWindow h reason s) := by
  rw [closeWindow_eq]
  exact windowClosed_bindingInv h inv

theorem closeIfOpen_bindingInv (h : EntryNo) (reason : CloseReason) (inv : BindingInv s) :
    BindingInv (closeIfOpen h reason s) := by
  unfold closeIfOpen
  split
  · exact closeWindow_bindingInv h reason inv
  · exact inv

/-- Entry `h`'s window at the tail of the list, and its open window field yes (R37, R38). -/
def windowOpened (h : EntryNo) (expiry : Time) (s : State) : State :=
  { s with windows := s.windows ++ [(⟨h, expiry⟩ : Window)] }.setEntry h ((s.entry h).withWindow true)

/-- A window that opens for a LIVE entry without one comes to the list and the field together (R36, R38). -/
theorem windowOpened_bindingInv {h : EntryNo} (live : (s.entry h).isLive = true) (unheld : hasWindow h s = false)
    (room : s.windows.length < 4) (expiry : Time) (inv : BindingInv s) : BindingInv (windowOpened h expiry s) := by
  obtain ⟨⟨few, nodup, fields⟩, slots⟩ := bindingInv_iff.mp inv
  have listed : (windowOpened h expiry s).windows = s.windows ++ [⟨h, expiry⟩] := rfl
  have entry (g : EntryNo) : (windowOpened h expiry s).entry g =
      if h = g then (s.entry h).withWindow true else s.entry g := entry_setEntry _ g h _
  refine bindingInv_iff.mpr ⟨⟨?_, ?_, fun g => ?_⟩, fun k => ?_⟩
  · rw [listed, List.length_append, List.length_singleton]
    omega
  · rw [listed, List.map_append, List.nodup_append]
    refine ⟨nodup, List.nodup_singleton _, fun a ha b hb => ?_⟩
    obtain ⟨w, hw, rfl⟩ := List.mem_map.mp ha
    obtain rfl : b = h := by simpa using hb
    simpa using List.any_eq_false.mp unheld w hw
  · rw [entry, hasWindow, listed, List.any_append]
    split
    · rename_i hg
      simp [← hg, withWindow_window live]
    · rename_i hg
      rw [fields g]
      simp [hasWindow, hg]
  · have bound (g : EntryNo) : ((windowOpened h expiry s).entry g).boundSlot = (s.entry g).boundSlot :=
      setEntry_kept _ (withWindow_boundSlot _ true) g
    have lost (g : EntryNo) : ((windowOpened h expiry s).entry g).isLost = (s.entry g).isLost :=
      setEntry_kept _ (withWindow_isLost _ true) g
    have slot : (windowOpened h expiry s).slot k = s.slot k := rfl
    simpa only [SlotFits, bound, lost, slot] using slots k

theorem openWindow_bindingInv {h : EntryNo} (live : (s.entry h).isLive = true) (unheld : hasWindow h s = false)
    (inv : BindingInv s) : BindingInv (openWindow h s) := by
  obtain ⟨e, he⟩ : ∃ e, s.entry h = some e := by
    cases he : s.entry h with
    | none => simp [he, Entry.isLive] at live
    | some e => exact ⟨e, rfl⟩
  rcases Nat.lt_or_ge s.windows.length 4 with room | full
  · rw [openWindow_room s he room]
    exact windowOpened_bindingInv live unheld room _ inv
  · rw [openWindow_full s he full]
    exact inv

theorem openRequest_bindingInv {h : EntryNo} (live : (s.entry h).isLive = true) (inv : BindingInv s) :
    BindingInv (openRequest h s) := by
  unfold openRequest
  split
  · exact closeWindow_bindingInv h .cancelled inv
  · exact openWindow_bindingInv live (Bool.eq_false_iff.mpr ‹_›) inv

/-! ### Bindings -/

/-- A slot record and the bound slot of an entry replaced together: the record fits in the state they leave, and the
entry is bound to no other slot before or after. -/
theorem rebind_bindingInv {h : EntryNo} {k : SlotNo} {r : Slot} {b : Option SlotNo}
    (before : ∀ j, j ≠ k → (s.entry h).boundSlot ≠ some j)
    (after : ∀ j, j ≠ k → ((s.entry h).withBound b).boundSlot ≠ some j)
    (fits : SlotFits ((s.setSlot k r).setEntry h ((s.entry h).withBound b)) k r) (inv : BindingInv s) :
    BindingInv ((s.setSlot k r).setEntry h ((s.entry h).withBound b)) := by
  obtain ⟨⟨few, nodup, fields⟩, slots⟩ := bindingInv_iff.mp inv
  have entry (g : EntryNo) : ((s.setSlot k r).setEntry h ((s.entry h).withBound b)).entry g =
      if h = g then (s.entry h).withBound b else s.entry g := entry_setEntry _ g h _
  refine bindingInv_iff.mpr ⟨⟨few, nodup, fun g => ?_⟩, fun j => ?_⟩
  · exact (setEntry_kept _ (withBound_window _ b) g).trans (fields g)
  · rw [setEntry_slot, slot_setSlot]
    split
    · rename_i hj
      exact hj ▸ fits
    · rename_i hj
      have bound (g : EntryNo) : (((s.setSlot k r).setEntry h ((s.entry h).withBound b)).entry g).boundSlot = some j ↔
          (s.entry g).boundSlot = some j := by
        rw [entry]
        split
        · rename_i hg
          exact iff_of_false (after j (Ne.symm hj)) (hg ▸ before j (Ne.symm hj))
        · rfl
      have lost (g : EntryNo) : (((s.setSlot k r).setEntry h ((s.entry h).withBound b)).entry g).isLost =
          (s.entry g).isLost := setEntry_kept _ (withBound_isLost _ b) g
      simpa only [SlotFits, bound, lost] using slots j

theorem breakBinding_bindingInv {h : EntryNo} {k : SlotNo} (bound : (s.entry h).boundSlot = some k)
    (inv : BindingInv s) : BindingInv (breakBinding h k s) := by
  rw [breakBinding_eq]
  refine rebind_bindingInv (fun j hj => ?_) (fun j _ => ?_) ⟨fun g => ?_, nofun, fun _ => rfl, fun _ => rfl⟩ inv
  · rw [bound]
    exact fun h => hj (Option.some.inj h).symm
  · simp [withBound_absent_boundSlot]
  · refine iff_of_false nofun ?_
    rw [entry_setEntry, setSlot_entry]
    split
    · simp [withBound_absent_boundSlot]
    · rename_i hg
      intro hb
      exact hg (Source.handset.inj (((source_iff inv).mpr bound).symm.trans ((source_iff inv).mpr hb)))

theorem makeBinding_bindingInv {h : EntryNo} {k : SlotNo} (enrolled : s.entry h ≠ none)
    (unbound : (s.entry h).boundSlot = none) (free : ∀ g, (s.slot k).source ≠ .handset g) (inv : BindingInv s) :
    BindingInv (makeBinding h k s) := by
  have now : ((s.entry h).withBound (some k)).boundSlot = some k := by
    cases he : s.entry h with
    | none => exact absurd he enrolled
    | some e => rfl
  rw [makeBinding_eq]
  refine rebind_bindingInv (fun j _ => ?_) (fun j hj => ?_)
    ⟨fun g => ?_, fun g hg => ?_, fun unsourced => ?_, nofun⟩ inv
  · simp [unbound]
  · rw [now]
    exact fun h => hj (Option.some.inj h).symm
  · rw [entry_setEntry, setSlot_entry]
    split
    · rename_i hg
      exact iff_of_true (by rw [hg]) now
    · rename_i hg
      refine iff_of_false (fun h => hg (Source.handset.inj h)) fun hb => free g ((source_iff inv).mpr hb)
  · obtain rfl := Source.handset.inj hg
    rw [entry_setEntry, if_pos rfl, withBound_isLost]
  · exact absurd rfl (unsourced h)

theorem breakBindingOf_bindingInv (h : EntryNo) (inv : BindingInv s) : BindingInv (breakBindingOf h s) := by
  unfold breakBindingOf
  split
  · exact breakBinding_bindingInv ‹_› inv
  · exact inv

theorem breakBindingAt_bindingInv (k : SlotNo) (inv : BindingInv s) : BindingInv (breakBindingAt k s) := by
  unfold breakBindingAt
  split
  · exact breakBinding_bindingInv ((source_iff inv).mp ‹_›) inv
  · exact inv
  · exact inv

theorem breakBindingOf_unbound (h : EntryNo) : ((breakBindingOf h s).entry h).boundSlot = none := by
  rw [breakBindingOf_entry, if_pos rfl, withBound_absent_boundSlot]

/-- An enrolled entry stays enrolled as its binding is broken. -/
theorem withBound_ne_none {e : Entry} (enrolled : e ≠ none) (b : Option SlotNo) : e.withBound b ≠ none := by
  cases e with
  | none => exact absurd rfl enrolled
  | some e => simp

theorem boundAnew_bindingInv {h : EntryNo} (k : SlotNo) (enrolled : s.entry h ≠ none) (inv : BindingInv s) :
    BindingInv (boundAnew h k s) := by
  have broken := breakBindingAt_bindingInv k (breakBindingOf_bindingInv h inv)
  refine makeBinding_bindingInv ?_ ?_ (breakBindingAt_source _ k) broken
  · rw [bindingsBroken_entry_self]
    exact withBound_ne_none enrolled none
  · rw [bindingsBroken_entry_self, withBound_absent_boundSlot]

/-- Of a classified sighting with a window waiting: the entry is enrolled, and the slot has no binding to break
(R43, R44). -/
theorem pairSighting_bindingInv (slot : Option SlotNo) (inv : BindingInv s) : BindingInv (pairSighting slot s) := by
  have ⟨⟨_, _, fields⟩, _⟩ := inv
  unfold pairSighting
  split
  · rename_i k w rest hw
    split
    · rename_i willPair
      have none : (s.slot k).source = .none := by
        simp only [eligible, Bool.and_eq_true, beq_iff_eq] at willPair
        exact willPair.1
      have enrolled : s.entry w.entry ≠ Option.none := by
        intro free
        have := fields w.entry
        simp [free, hasWindow, hw, Entry.window] at this
      have free (g : EntryNo) : ((breakBindingOf w.entry s).slot k).source ≠ .handset g := by
        rw [breakBindingOf_slot]
        split <;> simp [Slot.freed, none]
      have bound : boundAnew w.entry k s = makeBinding w.entry k (breakBindingOf w.entry s) :=
        congrArg _ (breakBindingAt_unbound _ free)
      have kept := closeWindow_bindingInv w.entry .bound (bound ▸ boundAnew_bindingInv k enrolled inv)
      dsimp only
      rw [echoTo_eq, queueNotice_eq]
      exact kept
    · exact inv
  · exact inv
  · exact inv

end Sys2Proof.Machine
end

section
/-! The events of handsets and slots keep the agreement of windows and bindings (Chapters 1 to 3). -/

namespace Sys2Proof.Machine

variable {s : State}

/-! ### The console's requests on bindings (R14, R29, R49) -/

theorem bindHandset_bindingInv {h : EntryNo} (k : SlotNo) (enrolled : s.entry h ≠ none) (inv : BindingInv s) :
    BindingInv (bindHandset h k s) := by
  have still : (windowClosed h s).entry h ≠ none := by
    rw [windowClosed_entry, if_pos rfl]
    cases he : s.entry h with
    | none => exact absurd he enrolled
    | some e =>
      obtain ⟨e', he', -⟩ := withWindow_some e false
      simp [he']
  rw [bindHandset_eq s inv]
  exact boundAnew_bindingInv k still (windowClosed_bindingInv h inv)

theorem unbindSlot_bindingInv (k : SlotNo) (inv : BindingInv s) : BindingInv (unbindSlot k s) := by
  have ⟨⟨_, _, fields⟩, agrees, _⟩ := inv
  cases hs : (s.slot k).source with
  | handset h =>
    have unbound : unbindSlot k s = echoTo h .released (breakBinding h k (closeIfOpen h .superseded s)) := by
      simp only [unbindSlot, hs]
    have bound : ((windowClosed h s).entry h).boundSlot = some k := by
      rw [windowClosed_boundSlot]
      exact (agrees h k).mp hs
    rw [unbound, echoTo_eq, closeIfOpen_windowClosed s (fields h) (by decide), emit_breakBinding]
    exact breakBinding_bindingInv bound (windowClosed_bindingInv h inv)
  | pace p =>
    simp only [unbindSlot, hs]
    exact setSlot_unbound_bindingInv (by simp [hs]) nofun rfl (fun _ => rfl) inv
  | none =>
    simp only [unbindSlot, hs]
    exact inv

/-- A handset without a window leaves its entry: its binding is broken first (R13, R14). -/
theorem releaseHandset_bindingInv {h : EntryNo} (closed : (s.entry h).window = false) (inv : BindingInv s) :
    BindingInv (releaseHandset h s) := by
  simp only [releaseHandset, echoTo_eq, queueNotice_eq]
  refine setEntry_unbound_bindingInv (breakBindingOf_unbound h) rfl ?_ (breakBindingOf_bindingInv h inv)
  change false = ((breakBindingOf h s).entry h).window
  rw [breakBindingOf_entry, if_pos rfl, withBound_window, closed]

theorem releaseHandset_closeIfOpen_bindingInv (h : EntryNo) (inv : BindingInv s) :
    BindingInv (releaseHandset h (closeIfOpen h .superseded s)) := by
  have ⟨⟨_, _, fields⟩, _⟩ := inv
  refine releaseHandset_bindingInv ?_ (closeIfOpen_bindingInv h .superseded inv)
  rw [closeIfOpen_windowClosed s (fields h) (by decide), emit_entry, windowClosed_entry, if_pos rfl,
    withWindow_window_false]

/-! ### Silence (R10) -/

/-- The loss of a handset is its window closed and then its entry LOST and its slot in failsafe. -/
theorem lostFrom_eq (h : EntryNo) (e : Enrolled) :
    lostFrom s h e (hasWindow h s) = atSlot e.bound Slot.lost ((windowClosed h s).setEntry h (some
      { e with phase := .lost (if s.releaseLimit = 0 then none else some (s.after (1000 * s.releaseLimit))) })) := by
  have listed : (if hasWindow h s = true then otherWindows h s else s.windows) = otherWindows h s := by
    split
    · rfl
    · exact (otherWindows_of_none s (Bool.eq_false_iff.mpr ‹_›)).symm
  rw [lostFrom, listed, windowClosed, setEntry_setEntry, atSlot_setEntry]

theorem loseHandset_bindingInv {h : EntryNo} {e : Enrolled} {silence : Time} {window : Bool} (he : s.entry h = some e)
    (hp : e.phase = .live silence window) (inv : BindingInv s) : BindingInv (loseHandset h e window s) := by
  have ⟨⟨_, _, fields⟩, _⟩ := inv
  obtain rfl : window = hasWindow h s := by
    rw [← fields h, he]
    simp [Entry.window, hp]
  rw [loseHandset_eq s he, lostFrom_eq h e]
  have bound : ((windowClosed h s).entry h).boundSlot = e.bound := by rw [windowClosed_boundSlot, he]; rfl
  have closed : ((windowClosed h s).entry h).window = false := by
    rw [windowClosed_entry, if_pos rfl, withWindow_window_false]
  exact setEntry_atSlot_bindingInv (e := some { e with phase := .lost _ }) (f := Slot.lost) bound.symm closed.symm
    (fun _ => rfl) (fun _ _ => rfl) (windowClosed_bindingInv h inv)

/-! ### Samples (R4 to R9) -/

/-- An LC press, or under HOLD the LC state, at the slot an entry is bound to arms no NONE slot (R9). -/
theorem pressed_bindingInv {h : EntryNo} {bound : Option SlotNo} (hb : (s.entry h).boundSlot = bound) (press lc : Bool)
    (inv : BindingInv s) : BindingInv (atSlot bound (Slot.pressed press lc) s) := by
  cases bound with
  | none => exact inv
  | some k =>
    refine setSlot_bindingInv ⟨rfl, rfl, fun none => ?_⟩ inv
    exact absurd (((source_iff inv).mpr hb).symm.trans none) nofun

theorem restartSilence_bindingInv {h : EntryNo} {e : Enrolled} {silence : Time} {window : Bool}
    (he : s.entry h = some e) (hp : e.phase = .live silence window) (inv : BindingInv s) :
    BindingInv (restartSilence h e window s) := by
  refine setEntry_bindingInv ?_ ?_ ?_ inv
  · rw [he]; rfl
  · simp [he, Entry.window, hp]
  · simp [he, Entry.isLost, hp]

theorem handPair_bindingInv {h : EntryNo} (live : (s.entry h).isLive = true) (press field : Bool) (inv : BindingInv s) :
    BindingInv (handPair h press field s) := by
  rw [handPair_eq]
  split
  · exact openRequest_bindingInv live inv
  · exact inv

/-- The entry comes to be LIVE and its slot out of failsafe together; then its presses are handed on (R7 to R9). -/
theorem acceptSample_bindingInv {h : EntryNo} {e : Enrolled} (he : s.entry h = some e) (m : Sample)
    (inv : BindingInv s) : BindingInv (acceptSample h e m s) := by
  rw [acceptSample_eq]
  have heard : BindingInv (atSlot e.bound (Slot.revived (Entry.isLost (some e))) (s.setEntry h (some
      { e with sample := m, phase := .live (s.after s.silenceLimit) (Entry.window (some e)) }))) := by
    refine setEntry_atSlot_bindingInv (e := some { e with sample := m, phase := .live _ _ }) (by rw [he]; rfl)
      (by rw [he]; rfl) (fun _ => rfl) (fun r flag => ?_) inv
    rw [he] at flag
    change (if Entry.isLost (some e) = true then false else r.failsafe) = false
    split
    · rfl
    · exact flag.trans (Bool.eq_false_iff.mpr ‹_›)
  have entry := (atSlot_entry _ e.bound (Slot.revived (Entry.isLost (some e))) h).trans (entry_setEntry_self s h (some
    { e with sample := m, phase := .live (s.after s.silenceLimit) (Entry.window (some e)) }))
  generalize atSlot e.bound (Slot.revived _) _ = u at heard entry ⊢
  obtain ⟨field', windows', outputs, taken, -⟩ :=
    handPair_taken u entry rfl (m.pair && !e.sample.pair) (Entry.window (some e))
  refine pressed_bindingInv (h := h) ?bound _ _ (handPair_bindingInv ?live _ _ heard)
  case bound => rw [taken, emit_entry, entry_setEntry_self]; rfl
  case live => rw [entry]; rfl

theorem knownSample_bindingInv {h : EntryNo} {e : Enrolled} (he : s.entry h = some e) (m : Sample)
    (inv : BindingInv s) : BindingInv (knownSample h e m s) := by
  unfold knownSample
  split
  · split
    · exact restartSilence_bindingInv he ‹_› inv
    · exact acceptSample_bindingInv he m inv
  · exact acceptSample_bindingInv he m inv

/-- The entry of an enrolment was FREE, so it is bound to no slot and has no window (R4). -/
theorem enrol_bindingInv {h : EntryNo} (free : s.entry h = none) (id : RadioId) (m : Sample) (inv : BindingInv s) :
    BindingInv (enrol h id m s) := by
  refine openRequest_bindingInv ?live (setEntry_unbound_bindingInv ?unbound rfl ?window inv)
  case live => rw [entry_setEntry_self]; rfl
  case unbound => rw [free]; rfl
  case window => rw [free]; rfl

theorem routeSample_bindingInv (payload : List Byte) (inv : BindingInv s) : BindingInv (routeSample payload s) := by
  have unknown (id : RadioId) (m : Sample) : BindingInv (unknownSample id m s) := by
    unfold unknownSample
    split
    · split
      · rename_i h found
        have free := find_finRange_test found
        exact enrol_bindingInv (Option.isNone_iff_eq_none.mp free) id m inv
      · exact inv
    · exact inv
  unfold routeSample
  split
  · dsimp only
    split
    · exact inv
    · unfold takeSample
      split
      · split
        · exact knownSample_bindingInv ‹_› _ inv
        · exact inv
      · exact unknown _ _
  · exact inv

/-! ### Rail frames (R21, R22, R112) -/

/-- The wish that a profile brings to a slot without a handset is off (R22). -/
theorem applyPending_bindingInv (k : SlotNo) (inv : BindingInv s) : BindingInv (applyPending k s) := by
  simp only [applyPending]
  split
  · exact inv
  · refine setSlot_bindingInv ⟨rfl, rfl, fun none unarmed => ?_⟩ inv
    simp only [wishAfterPolicy, none, unarmed, ite_self]

theorem formDrive_bindingInv (k : SlotNo) (inv : BindingInv s) : BindingInv (formDrive k s) :=
  setSlot_bindingInv (r := { (applyPending k s).slot k with lastStep := driveStep (applyPending k s) k })
    ⟨rfl, rfl, fun _ unarmed => unarmed⟩ (applyPending_bindingInv k inv)

/-! ### RESTART (R16, R35, R52) -/

/-- RESTART leaves no entry, no window and no source but PACE. -/
theorem forgotten_bindingInv (s : State) : BindingInv (forgotten s) := by
  refine bindingInv_iff.mpr ⟨⟨Nat.zero_le 4, List.nodup_nil, fun h => ?_⟩, fun k => ?_⟩
  · rw [forgotten_entry]; rfl
  · have unbound (h : EntryNo) : (s.slot k).restarted.source ≠ .handset h := by
      unfold Slot.restarted
      cases (s.slot k).source <;> simp
    rw [forgotten_slot]
    exact ⟨fun h => by simp [unbound h, forgotten_entry], fun h hs => absurd hs (unbound h), fun _ => rfl, fun _ => rfl⟩

end Sys2Proof.Machine
end

section
/-! The crossovers leave entries, windows and slot records alone, but for the wish that a CHANGED outcome disarms
(Chapters 5, 6 and 9). -/

namespace Sys2Proof.Machine

variable (s : State)

/-! ### Operations that leave the bindings alone -/

theorem emit_bindings (o : List Output) : (emit o s).bindings = s.bindings := rfl
theorem queueNotice_bindings (body : NoticeBody) : (queueNotice body s).bindings = s.bindings := rfl

theorem decideReturn_bindings (x : CrossNo) : (decideReturn x s).bindings = s.bindings := by
  rw [decideReturn_eq]
  rfl

theorem serveOwed_bindings : (serveOwed s).bindings = s.bindings := by
  unfold serveOwed
  split
  · rfl
  · split <;> rfl

theorem enterFault_bindings (x : CrossNo) (cause : FaultCause) :
    (enterFault x cause s).bindings = s.bindings := by
  simp only [enterFault]
  split
  · exact serveOwed_bindings _
  · rfl

theorem applyConfig_bindings (x : CrossNo) (g : CrossConfig) : (applyConfig x g s).bindings = s.bindings := by
  simp only [applyConfig]
  split
  · split
    · split
      · rfl
      · exact decideReturn_bindings _ x
    all_goals rfl
  · split
    case h_4 => split <;> rfl
    all_goals rfl

theorem loadConfig_bindings (x : CrossNo) (g : CrossConfig) : (loadConfig x g s).bindings = s.bindings := by
  simp only [loadConfig]
  split
  · exact applyConfig_bindings _ x g
  · rfl

theorem becomeOpen_bindings (x : CrossNo) : (becomeOpen x s).bindings = s.bindings := by
  simp only [becomeOpen]
  split
  · rfl
  · exact applyConfig_bindings _ x _

theorem becomeHolding_bindings (x : CrossNo) : (becomeHolding x s).bindings = s.bindings := by
  rw [becomeHolding_eq]
  split
  · rfl
  · exact decideReturn_bindings s x

theorem emptiedQueue_bindings (x : CrossNo) : (emptiedQueue x s).bindings = s.bindings := by
  simp only [emptiedQueue]
  split
  · exact becomeOpen_bindings s x
  · exact becomeHolding_bindings s x
  · split <;> rfl
  all_goals rfl

theorem appendEntry_bindings (x : CrossNo) (slot : Option SlotNo) :
    (appendEntry x slot s).bindings = s.bindings := by
  by_cases h : (s.cross x).state = .opened ∧ (approachDecided x slot s).2 = .throwing
  · rw [appendEntry_throw s x slot h]; rfl
  · rw [appendEntry_plain s x slot h]; rfl

theorem confirmThrow_bindings (x : CrossNo) : (confirmThrow x s).bindings = s.bindings := by
  simp only [confirmThrow]
  split
  · exact becomeHolding_bindings _ x
  · rfl

theorem confirmReturn_bindings (x : CrossNo) : (confirmReturn x s).bindings = s.bindings := by
  simp only [confirmReturn]
  split
  · exact becomeOpen_bindings _ x
  · rfl

theorem takePosition_bindings (x : CrossNo) (pos : Position) : (takePosition x pos s).bindings = s.bindings := by
  cases h : (s.cross x).state with
  | disabled | fault | dark => simp only [takePosition, h]
  | opened | passing | diverted | holding => cases pos <;> simp only [takePosition, h, enterFault_bindings]
  | throwing =>
    simp only [takePosition, h]
    split
    · exact confirmThrow_bindings s x
    · exact enterFault_bindings s x _
  | returning =>
    simp only [takePosition, h]
    split
    · exact confirmReturn_bindings s x
    · exact enterFault_bindings s x _

theorem elapseGuard_bindings (x : CrossNo) : (elapseGuard x s).bindings = s.bindings := by
  simp only [elapseGuard]
  split
  · exact decideReturn_bindings _ x
  · rfl

/-- Operations at a list of crossovers leave the bindings alone when each does. -/
theorem foldl_bindings {f : State → CrossNo → State} (step : ∀ s x, (f s x).bindings = s.bindings)
    (xs : List CrossNo) : (xs.foldl f s).bindings = s.bindings := by
  induction xs generalizing s with
  | nil => rfl
  | cons x xs ih => exact (ih (f s x)).trans (step s x)

theorem resyncDark_bindings (x : CrossNo) : (resyncDark s x).bindings = s.bindings := by
  simp only [resyncDark]
  split
  · split
    · exact decideReturn_bindings s x
    · rfl
  · rfl

theorem leaveCutoff_bindings : (leaveCutoff s).bindings = s.bindings := by
  rw [leaveCutoff, queueNotice_bindings]
  exact foldl_bindings (f := resyncDark) { s with track := .halt } resyncDark_bindings _

theorem restartCrossovers_bindings : (restartCrossovers s).bindings = s.bindings := by
  by_cases cut : s.track = .cutoff
  · rw [restartCrossovers_cutoff s cut]; rfl
  · rw [restartCrossovers_running s cut]
    exact foldl_bindings (zonesForgotten s) decideReturn_bindings _

theorem formGate_bindings (p : Fin 12) : (formGate p s).bindings = s.bindings := by
  unfold formGate
  split
  · rfl
  · exact serveOwed_bindings _

/-! ### Passages, which may disarm a wish (R25) -/

variable {s}

theorem completePassage_bindingInv (x : CrossNo) (e : ZoneEntry) (rest : List ZoneEntry) (outcome : PassageOutcome)
    (exit : Option (Time × ExitSensor)) (inv : BindingInv s) :
    BindingInv (completePassage x e rest outcome exit s) := by
  rw [completePassage_eq]
  refine bindingInv_congr (emit_bindings _ _) ?_
  dsimp only
  split
  · exact handChanged_bindingInv e.slot inv
  · exact inv

theorem emptiedQueue_bindingInv (x : CrossNo) (inv : BindingInv s) : BindingInv (emptiedQueue x s) :=
  bindingInv_congr (emptiedQueue_bindings s x) inv

theorem removeEntry_bindingInv (x : CrossNo) (e : ZoneEntry) (rest : List ZoneEntry) (outcome : PassageOutcome)
    (exit : Option (Time × ExitSensor)) (inv : BindingInv s) : BindingInv (removeEntry x e rest outcome exit s) := by
  have passed := completePassage_bindingInv x e rest outcome exit inv
  unfold removeEntry
  split
  · exact emptiedQueue_bindingInv x passed
  · exact passed

theorem displaceSlot_bindingInv (x : CrossNo) (slot : Option SlotNo) (inv : BindingInv s) :
    BindingInv (displaceSlot x slot s) := by
  unfold displaceSlot
  split
  · exact inv
  · dsimp only
    split
    · exact completePassage_bindingInv x _ _ _ _ inv
    · exact inv

theorem displaceHead_bindingInv (x : CrossNo) (inv : BindingInv s) : BindingInv (displaceHead x s) := by
  unfold displaceHead
  split
  · split
    · exact completePassage_bindingInv x _ _ _ _ inv
    · exact inv
  · exact inv

theorem takeApproach_bindingInv (x : CrossNo) (slot : Option SlotNo) (inv : BindingInv s) :
    BindingInv (takeApproach x slot s) := by
  have cleared := displaceHead_bindingInv x (displaceSlot_bindingInv x slot inv)
  have entered {t : State} (inv : BindingInv t) :
      BindingInv (if (t.cross x).state.active then appendEntry x slot t else t) := by
    split
    · exact bindingInv_congr (appendEntry_bindings t x slot) inv
    · exact inv
  unfold takeApproach
  dsimp only
  split
  · exact entered (emptiedQueue_bindingInv x cleared)
  · exact entered cleared

theorem takeExit_bindingInv (x : CrossNo) (sensor : ExitSensor) (slot : Option SlotNo) (inv : BindingInv s) :
    BindingInv (takeExit x sensor slot s) := by
  simp only [takeExit]
  split
  · split
    · exact removeEntry_bindingInv x _ _ _ _ inv
    · exact inv
  · split
    · exact removeEntry_bindingInv x _ _ _ _ inv
    · exact inv

/-! ### Sightings (R61 to R65) -/

theorem crossSighting_bindingInv (x : CrossNo) (sensor : Sensor) (slot : Option SlotNo) (inv : BindingInv s) :
    BindingInv (crossSighting x sensor slot s) := by
  unfold crossSighting
  split
  · split
    · exact takeApproach_bindingInv x slot inv
    · exact takeExit_bindingInv x _ slot inv
  · exact inv

/-- Whichever of the two units takes the sighting first, both keep the agreement (R65). -/
theorem takeSighting_bindingInv (x : CrossNo) (sensor p w : Byte) (inv : BindingInv s) :
    BindingInv (takeSighting x sensor p w s) := by
  have handed (sensor : Sensor) (slot : Option SlotNo) : BindingInv (handSighting x sensor slot s) := by
    have drawn : BindingInv s.draw := inv
    unfold handSighting
    split
    · split
      · exact crossSighting_bindingInv x sensor slot (pairSighting_bindingInv slot drawn)
      · exact pairSighting_bindingInv slot (crossSighting_bindingInv x sensor slot drawn)
    · exact crossSighting_bindingInv x sensor slot (pairSighting_bindingInv slot inv)
  unfold takeSighting
  split
  · exact inv
  · split
    · exact inv
    · exact handed _ _

end Sys2Proof.Machine
end

section
/-! Every request, every command and every step keeps the agreement of windows and bindings (O5). -/

namespace Sys2Proof.Machine

variable {s : State}

/-! ### Requests that leave the bindings alone (R150, R151) -/

section
variable (s : State) (tag : Byte) (args : List Byte)

theorem answer_bindings (code : Byte) (bytes : List Byte) : (answer tag code bytes s).bindings = s.bindings := rfl

theorem statusRequest_bindings : (statusRequest tag args s).bindings = s.bindings := by
  unfold statusRequest
  split <;> rfl

theorem readHandsetRequest_bindings : (readHandsetRequest tag args s).bindings = s.bindings := by
  unfold readHandsetRequest
  split
  · split <;> rfl
  · rfl

theorem readSlotRequest_bindings : (readSlotRequest tag args s).bindings = s.bindings := by
  unfold readSlotRequest
  split
  · split <;> rfl
  · rfl

theorem readCrossoverRequest_bindings : (readCrossoverRequest tag args s).bindings = s.bindings := by
  unfold readCrossoverRequest
  split
  · split <;> rfl
  · rfl

theorem readWindowsRequest_bindings : (readWindowsRequest tag args s).bindings = s.bindings := by
  unfold readWindowsRequest
  split <;> rfl

theorem profileFirstRequest_bindings : (profileFirstRequest tag args s).bindings = s.bindings := by
  unfold profileFirstRequest
  split <;> rfl

theorem beaconRequest_bindings : (beaconRequest tag args s).bindings = s.bindings := by
  unfold beaconRequest
  split
  · split
    · dsimp only
      split <;> rfl
    · rfl
  · rfl

theorem beaconClearRequest_bindings : (beaconClearRequest tag args s).bindings = s.bindings := by
  unfold beaconClearRequest
  split
  · split <;> rfl
  · rfl

theorem toleranceRequest_bindings : (toleranceRequest tag args s).bindings = s.bindings := by
  unfold toleranceRequest
  split
  · dsimp only
    split <;> rfl
  · rfl

theorem crossoverSetRequest_bindings : (crossoverSetRequest tag args s).bindings = s.bindings := by
  unfold crossoverSetRequest
  split
  · split
    · exact (answer_bindings _ _ _ _).trans (loadConfig_bindings s _ _)
    · rfl
  · rfl

theorem crossoverClearRequest_bindings : (crossoverClearRequest tag args s).bindings = s.bindings := by
  unfold crossoverClearRequest
  split
  · split
    · split
      · rfl
      · split
        · rfl
        · exact (answer_bindings _ _ _ _).trans (decideReturn_bindings s _)
    · rfl
  · rfl

theorem trackRequest_bindings : (trackRequest tag args s).bindings = s.bindings := by
  unfold trackRequest
  split
  · split <;> rfl
  · rfl

theorem clearCutoffRequest_bindings : (clearCutoffRequest tag args s).bindings = s.bindings := by
  unfold clearCutoffRequest
  split
  · split
    · rfl
    · split
      · rfl
      · exact (answer_bindings _ _ _ _).trans (leaveCutoff_bindings s)
  · rfl

theorem linkSetRequest_bindings : (linkSetRequest tag args s).bindings = s.bindings := by
  unfold linkSetRequest
  split <;> rfl

end

/-! ### Requests on slots and handsets (R14, R20, R29 to R31, R49), and RESTART -/

section
variable (tag : Byte) (args : List Byte) (inv : BindingInv s)
include inv

/-- A pending profile is no part of a binding (R20). -/
theorem profileSecondRequest_bindingInv : BindingInv (profileSecondRequest tag args s) := by
  unfold profileSecondRequest
  split
  · split
    · rename_i k _
      exact setSlot_bindingInv (k := k) (r := { s.slot k with pendingProfile := some _ })
        ⟨rfl, rfl, fun _ unarmed => unarmed⟩ inv
    · exact inv
  · exact inv

theorem bindRequest_bindingInv : BindingInv (bindRequest tag args s) := by
  unfold bindRequest
  split
  · split
    · split
      · exact inv
      · rename_i enrolled
        split
        · exact inv
        · exact bindHandset_bindingInv _ (fun free => enrolled (by simp [free])) inv
    · exact inv
  · exact inv

theorem unbindRequest_bindingInv : BindingInv (unbindRequest tag args s) := by
  unfold unbindRequest
  split
  · split
    · exact unbindSlot_bindingInv _ inv
    · exact inv
  · exact inv

theorem forgetRequest_bindingInv : BindingInv (forgetRequest tag args s) := by
  unfold forgetRequest
  split
  · split
    · split
      · exact inv
      · exact releaseHandset_closeIfOpen_bindingInv _ inv
    · exact inv
  · exact inv

/-- A slot that no handset has comes to be PACE (R30). -/
theorem setPaceRequest_bindingInv : BindingInv (setPaceRequest tag args s) := by
  unfold setPaceRequest
  split
  · split
    · rename_i k _
      split
      · exact inv
      · rename_i free
        have unbound (h : EntryNo) : (s.slot k).source ≠ .handset h := fun hs => free (isHandset_iff.mpr ⟨h, hs⟩)
        exact setSlot_unbound_bindingInv unbound nofun rfl nofun inv
    · exact inv
  · exact inv

theorem wishRequest_bindingInv : BindingInv (wishRequest tag args s) := by
  unfold wishRequest
  split
  · split
    · split
      · rename_i k _ pace
        exact setWish_bindingInv (k := k) (fun none => by simp [none, Source.isPace] at pace) _ inv
      · exact inv
    · exact inv
  · exact inv

theorem restartRequest_bindingInv : BindingInv (restartRequest tag args s) := by
  unfold restartRequest
  split
  · rw [restartPart_eq]
    exact bindingInv_congr ((queueNotice_bindings _ _).trans (restartCrossovers_bindings _)) (forgotten_bindingInv s)
  · exact inv

/-- A code of Table 12-4 names its request, and every other is refused (R151 ①). -/
theorem requestByCode_bindingInv (code : Byte) : BindingInv (requestByCode tag code args s) := by
  have same {t : State} (h : t.bindings = s.bindings) : BindingInv t := bindingInv_congr h inv
  unfold requestByCode
  split
  · exact same (statusRequest_bindings ..)
  · exact same (readHandsetRequest_bindings ..)
  · exact same (readSlotRequest_bindings ..)
  · exact same (readCrossoverRequest_bindings ..)
  · exact same (readWindowsRequest_bindings ..)
  · exact same (profileFirstRequest_bindings ..)
  · exact profileSecondRequest_bindingInv tag args inv
  · exact bindRequest_bindingInv tag args inv
  · exact unbindRequest_bindingInv tag args inv
  · exact forgetRequest_bindingInv tag args inv
  · exact setPaceRequest_bindingInv tag args inv
  · exact wishRequest_bindingInv tag args inv
  · exact same (beaconRequest_bindings ..)
  · exact same (beaconClearRequest_bindings ..)
  · exact same (toleranceRequest_bindings ..)
  · exact same (crossoverSetRequest_bindings ..)
  · exact same (crossoverClearRequest_bindings ..)
  · exact same (trackRequest_bindings ..)
  · exact same (clearCutoffRequest_bindings ..)
  · exact same (linkSetRequest_bindings ..)
  · exact restartRequest_bindingInv tag args inv
  · exact inv

/-- A request is taken with room for its reply, or discarded (R144); every request frame is routed by its code. -/
theorem onRequest_bindingInv (code : Byte) : BindingInv (onRequest (requestByCode tag code args) s) := by
  have taken : BindingInv s.handTaken := inv
  unfold onRequest
  dsimp only
  split
  · exact requestByCode_bindingInv tag args taken code
  · exact taken
end

/-! ### The two lines (R108, R142) -/

theorem routeFrame_bindingInv (kind : Byte) (payload : List Byte) (inv : BindingInv s) :
    BindingInv (routeFrame kind payload s) := by
  have taken : BindingInv s.handTaken := inv
  unfold routeFrame
  split
  · exact routeSample_bindingInv payload taken
  · split
    · split
      · exact onRequest_bindingInv _ _ inv _
      · exact taken
    · exact taken

theorem receiveHand_bindingInv (bytes : List Byte) (inv : BindingInv s) : BindingInv (receiveHand bytes s) := by
  induction bytes generalizing s with
  | nil => exact inv
  | cons b rest ih =>
    unfold receiveHand
    split
    · exact ih inv
    · exact ih (routeFrame_bindingInv _ _ inv)

theorem receiveSection_bindingInv (bytes : List Byte) (inv : BindingInv s) : BindingInv (receiveSection bytes s) := by
  induction bytes generalizing s with
  | nil => exact inv
  | cons b rest ih =>
    unfold receiveSection
    split
    · exact ih inv
    · rename_i r _
      refine ih ?_
      cases r with
      | sighting x sensor p w => exact takeSighting_bindingInv x sensor p w inv
      | position x pos => exact bindingInv_congr (takePosition_bindings _ x pos) inv

/-! ### Commands and steps -/

variable {t : State}

theorem silenceExpiry_bindingInv {h : EntryNo} (inv : BindingInv s) (ht : exec (.silenceExpiry h) s = .next t) :
    BindingInv t := by
  obtain rfl := Host.Outcome.next.inj ht
  split
  · split
    · split
      · exact loseHandset_bindingInv ‹_› ‹_› inv
      · exact inv
    · exact inv
  · exact inv

/-- A LOST entry has no window (Table 1-2), so nothing but its binding is to be undone. -/
theorem releaseExpiry_bindingInv {h : EntryNo} (inv : BindingInv s) (ht : exec (.releaseExpiry h) s = .next t) :
    BindingInv t := by
  obtain rfl := Host.Outcome.next.inj ht
  split
  · rename_i e he
    split
    · rename_i release hp
      split
      · exact releaseHandset_bindingInv (by simp [he, Entry.window, hp]) inv
      · exact inv
    · exact inv
    · exact inv
  · exact inv

theorem windowExpiry_bindingInv {h : EntryNo} (inv : BindingInv s) (ht : exec (.windowExpiry h) s = .next t) :
    BindingInv t := by
  obtain rfl := Host.Outcome.next.inj ht
  split
  · split
    · exact closeWindow_bindingInv h .expired inv
    · exact inv
  · exact inv

theorem clearDeadlineExpiry_bindingInv {x : CrossNo} {i : Fin 4} (inv : BindingInv s)
    (ht : exec (.clearDeadlineExpiry x i) s = .next t) : BindingInv t := by
  obtain rfl := Host.Outcome.next.inj ht
  split
  · split
    · exact removeEntry_bindingInv x _ _ _ _ inv
    · exact inv
  · exact inv

theorem driveFrame_bindingInv {k : SlotNo} (inv : BindingInv s) (ht : exec (.driveFrame k) s = .next t) :
    BindingInv t := by
  obtain rfl := Host.Outcome.next.inj ht
  split
  · exact formDrive_bindingInv k inv
  · exact inv

theorem guardElapse_bindings {x : CrossNo} (ht : exec (.guardElapse x) s = .next t) : t.bindings = s.bindings := by
  obtain rfl := Host.Outcome.next.inj ht
  split
  · exact elapseGuard_bindings s x
  · rfl

theorem confirmDeadlineExpiry_bindings {x : CrossNo} (ht : exec (.confirmDeadlineExpiry x) s = .next t) :
    t.bindings = s.bindings := by
  obtain rfl := Host.Outcome.next.inj ht
  split
  · split
    · exact enterFault_bindings s x .confirmTimeout
    · rfl
  all_goals rfl

theorem faultLineAsserted_bindings (ht : exec .faultLineAsserted s = .next t) : t.bindings = s.bindings := by
  obtain rfl := Host.Outcome.next.inj ht
  split <;> rfl

theorem headFrame_bindings (ht : exec .headFrame s = .next t) : t.bindings = s.bindings := by
  obtain rfl := Host.Outcome.next.inj ht
  split <;> rfl

theorem gateFrame_bindings (ht : exec .gateFrame s = .next t) : t.bindings = s.bindings := by
  obtain rfl := Host.Outcome.next.inj ht
  split
  · exact formGate_bindings s 9
  · split
    · exact formGate_bindings s 10
    · rfl

theorem codeFrame_bindings (ht : exec .codeFrame s = .next t) : t.bindings = s.bindings := by
  obtain rfl := Host.Outcome.next.inj ht
  split <;> rfl

/-- A request command is what its code of Table 12-4 names. -/
theorem request_bindingInv {tag code : Byte} {args : List Byte} (inv : BindingInv s)
    (ht : (Host.Outcome.next (onRequest (requestByCode tag code args) s) : Result) = .next t) : BindingInv t :=
  Host.Outcome.next.inj ht ▸ onRequest_bindingInv tag args inv code

/-- Every command keeps the agreement of windows, bindings, failsafe flags and disarmed NONE slots. -/
theorem exec_bindingInv {c : Instr} (inv : BindingInv s) (ht : exec c s = .next t) : BindingInv t := by
  cases c with
  | sample payload => exact Host.Outcome.next.inj ht ▸ routeSample_bindingInv (s := s.handTaken) payload inv
  | silenceExpiry h => exact silenceExpiry_bindingInv inv ht
  | releaseExpiry h => exact releaseExpiry_bindingInv inv ht
  | windowExpiry h => exact windowExpiry_bindingInv inv ht
  | sighting x sensor p w =>
    exact Host.Outcome.next.inj ht ▸ takeSighting_bindingInv (s := s.reportTaken) x sensor p w inv
  | clearDeadlineExpiry x i => exact clearDeadlineExpiry_bindingInv inv ht
  | guardElapse x => exact bindingInv_congr (guardElapse_bindings ht) inv
  | position x pos =>
    exact bindingInv_congr (Host.Outcome.next.inj ht ▸ takePosition_bindings s.reportTaken x pos) inv
  | confirmDeadlineExpiry x => exact bindingInv_congr (confirmDeadlineExpiry_bindings ht) inv
  | sectionFrameDiscard bytes => exact Host.Outcome.next.inj ht ▸ receiveSection_bindingInv bytes inv
  | sectionByteTimeout => exact Host.Outcome.next.inj ht ▸ inv
  | handLinkFrameDiscard bytes => exact Host.Outcome.next.inj ht ▸ receiveHand_bindingInv bytes inv
  | handLinkByteTimeout => exact Host.Outcome.next.inj ht ▸ inv
  | unknownRequest tag code args => exact request_bindingInv inv ht
  | status tag args => exact request_bindingInv (code := 0x01) inv ht
  | readHandset tag args => exact request_bindingInv (code := 0x02) inv ht
  | readSlot tag args => exact request_bindingInv (code := 0x03) inv ht
  | readCrossover tag args => exact request_bindingInv (code := 0x04) inv ht
  | readWindows tag args => exact request_bindingInv (code := 0x05) inv ht
  | profileFirst tag args => exact request_bindingInv (code := 0x10) inv ht
  | profileSecond tag args => exact request_bindingInv (code := 0x11) inv ht
  | bind tag args => exact request_bindingInv (code := 0x20) inv ht
  | unbind tag args => exact request_bindingInv (code := 0x21) inv ht
  | forget tag args => exact request_bindingInv (code := 0x22) inv ht
  | setPace tag args => exact request_bindingInv (code := 0x23) inv ht
  | wish tag args => exact request_bindingInv (code := 0x24) inv ht
  | beacon tag args => exact request_bindingInv (code := 0x30) inv ht
  | beaconClear tag args => exact request_bindingInv (code := 0x31) inv ht
  | tolerance tag args => exact request_bindingInv (code := 0x32) inv ht
  | crossoverSet tag args => exact request_bindingInv (code := 0x40) inv ht
  | crossoverClear tag args => exact request_bindingInv (code := 0x41) inv ht
  | track tag args => exact request_bindingInv (code := 0x50) inv ht
  | clearCutoff tag args => exact request_bindingInv (code := 0x51) inv ht
  | linkSet tag args => exact request_bindingInv (code := 0x60) inv ht
  | restart tag args => exact request_bindingInv (code := 0x7F) inv ht
  | powerOnReset asserted => exact Host.Outcome.next.inj ht ▸ poweredOn_bindingInv asserted s
  | faultLineAsserted => exact bindingInv_congr (faultLineAsserted_bindings ht) inv
  | faultLineReleased => exact Host.Outcome.next.inj ht ▸ inv
  | headFrame => exact bindingInv_congr (headFrame_bindings ht) inv
  | driveFrame k => exact driveFrame_bindingInv inv ht
  | gateFrame => exact bindingInv_congr (gateFrame_bindings ht) inv
  | codeFrame => exact bindingInv_congr (codeFrame_bindings ht) inv
  | transmitterFrameEnd => exact Host.Outcome.next.inj ht ▸ inv

/-- Settles O5: a step is one millisecond, which moves TIME alone, or a command. -/
theorem stepKeepsBindingsAndWindows : Obligations.StepKeepsBindingsAndWindows := by
  unfold Obligations.StepKeepsBindingsAndWindows
  intro s t inv ht
  unfold step at ht
  split at ht
  · exact Host.Outcome.next.inj ht ▸ inv
  · rename_i c rest _
    exact exec_bindingInv (s := { s with pending := rest }) inv ht

end Sys2Proof.Machine
end

section
/-! The reports of handsets and windows (R51, R154), and a window's expiry (R41). -/

namespace Sys2Proof.Machine

variable (s : State)

/-! ### Windows and their entries (R36) -/

/-- A window's entry is LIVE, since only a LIVE entry has an open window (Table 1-2). -/
theorem isLive_of_window {e : Entry} (opened : e.window = true) : e.isLive = true := by
  rcases e with _ | ⟨id, m, b, _ | _⟩
  · exact opened
  · rfl
  · exact opened

/-- The window list names LIVE entries alone. -/
theorem isLive_of_listed {s : State} (inv : WindowInv s) {w : Window} (listed : w ∈ s.windows) :
    (s.entry w.entry).isLive = true := by
  obtain ⟨-, -, fields⟩ := inv
  refine isLive_of_window ((fields w.entry).trans (List.any_eq_true.mpr ⟨w, listed, ?_⟩))
  exact beq_self_eq_true w.entry

/-- The one window of an entry is the one found for it. -/
theorem find_window {s : State} (inv : WindowInv s) {w : Window} (listed : w ∈ s.windows) :
    (s.windows.find? fun v => v.entry == w.entry) = some w := by
  obtain ⟨-, nodup, -⟩ := inv
  cases found : s.windows.find? fun v => v.entry == w.entry with
  | none => simpa using List.find?_eq_none.mp found w listed
  | some v =>
    have same : v.entry = w.entry := by simpa using List.find?_some found
    rw [List.inj_on_of_nodup_map nodup (List.mem_of_find?_eq_some found) listed same]

/-- Settles O38: the entry's window is the one found, its expiry time is reached, and it closes with its notice. -/
theorem windowExpiryClosesTheWindow : Obligations.WindowExpiryClosesTheWindow := by
  unfold Obligations.WindowExpiryClosesTheWindow
  rintro s _ e w inv he listed rfl due
  have expired : exec (.windowExpiry w.entry) s = .next (closeWindow w.entry .expired s) := by
    simp only [exec, execWindowExpiry, find_window inv listed, reached_iff.mpr due, if_true]
  rw [expired, closeWindow_noticed s (by decide), closeOutputs, echoOutput_some s he]
  rfl

/-! ### READ-HANDSET (R154, Table 12-9) -/

/-- The flag byte of a sample, bit by bit (Table 12-2). -/
theorem sampleFlags_bits (m : Sample) :
    (sampleFlags m).getLsbD 0 = m.lc ∧ (sampleFlags m).getLsbD 1 = m.pair ∧
    (sampleFlags m).getLsbD 2 = false ∧ (sampleFlags m).getLsbD 3 = false ∧
    (sampleFlags m).extractLsb' 4 4 = m.seq := by
  obtain ⟨trigger, lc, pair, seq⟩ := m
  simp only [sampleFlags]
  revert lc pair seq
  decide

/-- A FREE entry's report is its state alone. -/
theorem handsetData_free {h : EntryNo} (free : s.entry h = none) : handsetData s h = [0] := by
  simp only [handsetData, free]

/-- A LIVE or LOST entry's report: its state, its fields, and the time remaining to its deadline, if it has one. -/
theorem handsetData_enrolled {h : EntryNo} {e : Enrolled} (he : s.entry h = some e) :
    handsetData s h =
      [(match e.phase with | .live _ _ => 1 | .lost _ => 2 : Byte)] ++ bytes16 e.radioId.toNat ++
        [e.sample.trigger, sampleFlags e.sample, byte (slotNumber e.bound),
          (match e.phase with | .live _ true => 1 | .live _ false => 0 | .lost _ => 0 : Byte)] ++
        bytes24 (match e.phase with
          | .live silence _ => remaining s.time silence
          | .lost (some release) => remaining s.time release
          | .lost none => 0) := by
  obtain ⟨id, m, bound, phase⟩ := e
  simp only [handsetData, he]
  match phase with
  | .live silence true => rfl
  | .live silence false => rfl
  | .lost (some release) => rfl
  | .lost none => rfl

/-- A deadline at most half the wrap ahead of TIME has its difference from TIME left. -/
theorem remaining_ahead {now deadline : Time} (ahead : 1 ≤ (deadline - now).toNat)
    (near : (deadline - now).toNat ≤ 2 ^ 31) : remaining now deadline = (deadline - now).toNat := by
  have early : reached now deadline = false := not_reached_iff.mpr (by bv_omega)
  simp only [remaining, early, Bool.false_eq_true, if_false]

theorem readHandsetRequest_reports (tag : Byte) (h : EntryNo) :
    readHandsetRequest tag [byte h.val] s = emit [okReply tag 0x02 (handsetData s h)] s := by
  simp only [readHandsetRequest, entryArg_byte, answer_eq]

/-! ### READ-WINDOWS (R51) -/

/-- Each window's report names its entry's radio ID, all zeros for an entry that has none. -/
theorem windowsData_eq : windowsData s =
    byte s.windows.length :: (s.windows.map fun w =>
      [byte w.entry.val] ++ bytes16 (((s.entry w.entry).radio.getD 0).toNat) ++
        bytes16 (remaining s.time w.expiry)).flatten := by
  rw [windowsData, List.flatMap_def]
  congr 3
  funext w
  cases s.entry w.entry <;> rfl

/-- Settles O18: both requests are taken with room for their reply, and answer the data above. -/
theorem readHandsetAndWindowsReport : Obligations.ReadHandsetAndWindowsReport := by
  unfold Obligations.ReadHandsetAndWindowsReport
  refine ⟨⟨fun s tag h room => ?handset, fun now deadline => remaining_ahead⟩,
    fun s tag room inv => ⟨?windows, fun w => isLive_of_listed inv⟩⟩
  case handset =>
    have read {data : List Byte} (reported : handsetData s.handTaken h = data) :
        exec (.readHandset tag [byte h.val]) s = .next (emit [okReply tag 0x02 data] s.handTaken) :=
      reported ▸ request_taken room (readHandsetRequest_reports s.handTaken tag h)
    exact ⟨fun free => read (handsetData_free s.handTaken free),
      fun e he => ⟨_, read (handsetData_enrolled s.handTaken he), sampleFlags_bits e.sample⟩⟩
  case windows =>
    exact request_taken room (congrArg (fun data => emit [okReply tag 0x05 data] s.handTaken)
      (windowsData_eq s.handTaken))

end Sys2Proof.Machine
end

section
/-! What the Crossover Controller makes of a sighting of a disarmed slot: the same records and the same outputs whatever
entries, windows and slots the part holds (R64, R65). -/

namespace Sys2Proof.Machine

/-! ### The part as the Crossover Controller sees it -/

/-- The part `t` with the crossover table and the section command queue of another. -/
def State.withCrossings (t : State) (crossovers : Vector Crossover 16) (commands : List SectionCommand) : State :=
  { t with crossovers := crossovers, commands := commands }

@[simp] theorem withCrossings_entry (t : State) (crossovers : Vector Crossover 16) (commands : List SectionCommand)
    (h : EntryNo) : (t.withCrossings crossovers commands).entry h = t.entry h := rfl

@[simp] theorem withCrossings_slot (t : State) (crossovers : Vector Crossover 16) (commands : List SectionCommand)
    (k : SlotNo) : (t.withCrossings crossovers commands).slot k = t.slot k := rfl

/-- The part `t` with all that the Crossover Controller reads of `s`, but for the slots: crossover table, section command
queue and TIME. -/
def State.asAt (t s : State) : State :=
  { t with crossovers := s.crossovers, commands := s.commands, time := s.time }

/-- What `f` makes of the crossover table and the section command queue of `s`, and what it hands on, is fixed by what
the Crossover Controller reads of `s`, as long as slot `k` is disarmed; and `f` changes nothing else. -/
def TakenAlike (k : SlotNo) (s : State) (f : State → State) : Prop :=
  ∃ (passage : List Output) (crossovers : Vector Crossover 16) (commands : List SectionCommand),
    ∀ t : State, (t.slot k).wish = false →
      f (t.asAt s) = emit passage ((t.asAt s).withCrossings crossovers commands)

namespace TakenAlike

variable {k : SlotNo} {s : State} {f g : State → State}

theorem unchanged : TakenAlike k s id := ⟨[], s.crossovers, s.commands, fun _ _ => rfl⟩

/-- A record replaced, and a list of outputs. -/
theorem record (x : CrossNo) (c : Crossover) (passage : List Output) :
    TakenAlike k s fun t => emit passage (t.setCross x c) :=
  ⟨passage, s.crossovers.set x.val c, s.commands, fun _ _ => rfl⟩

/-- A record replaced with a command queued. -/
theorem queued (x : CrossNo) (c : Crossover) (d : SectionCommand) :
    TakenAlike k s fun t => { t with commands := t.commands ++ [d] }.setCross x c :=
  ⟨[], s.crossovers.set x.val c, s.commands ++ [d], fun _ _ => rfl⟩

theorem congr (taken : TakenAlike k s g)
    (same : ∀ t : State, (t.slot k).wish = false → f (t.asAt s) = g (t.asAt s)) : TakenAlike k s f := by
  obtain ⟨passage, crossovers, commands, effect⟩ := taken
  exact ⟨passage, crossovers, commands, fun t disarmed => (same t disarmed).trans (effect t disarmed)⟩

/-- Of two operations in turn the second takes the part as the first leaves it. -/
theorem comp (first : TakenAlike k s f) (second : ∀ u, TakenAlike k u g) : TakenAlike k s fun t => g (f t) := by
  obtain ⟨passage, crossovers, commands, effect⟩ := first
  obtain ⟨passage', crossovers', commands', effect'⟩ := second (s.withCrossings crossovers commands)
  refine ⟨passage ++ passage', crossovers', commands', fun t disarmed => ?_⟩
  have next := effect' (emit passage ((t.asAt s).withCrossings crossovers commands)) disarmed
  rw [← emit_emit]
  exact (congrArg g (effect t disarmed)).trans next

end TakenAlike

variable {k : SlotNo} (s : State) (x : CrossNo)

/-! ### The operations of the crossover record -/

theorem decideReturn_takenAlike : TakenAlike k s (decideReturn x) := by
  rcases Nat.lt_or_ge s.commands.length 8 with room | full
  · exact (TakenAlike.queued x { s.cross x with state := .returning, status := .queued .returning }
      ⟨x, .returning, (s.cross x).config.pulse⟩).congr fun t _ => decideReturn_room (t.asAt s) x room
  · exact (TakenAlike.record x { s.cross x with state := .returning, status := .owed (s.cross x).config.pulse }
      []).congr fun t _ => decideReturn_full (t.asAt s) x full

theorem becomeOpen_takenAlike : TakenAlike k s (becomeOpen x) := by
  cases hg : (s.cross x).staged with
  | none =>
    exact (TakenAlike.record x { s.cross x with state := .opened } []).congr fun t _ =>
      becomeOpen_plain (t.asAt s) x hg
  | some g =>
    exact (TakenAlike.record x { s.cross x with
      config := g, staged := none, state := if g.enabled then .opened else .disabled
      guardRunning := decide ((s.time - (s.cross x).settled).toNat < g.dead) } []).congr fun t _ =>
        becomeOpen_staged (t.asAt s) x hg

theorem becomeHolding_takenAlike : TakenAlike k s (becomeHolding x) := by
  cases hg : (s.cross x).guardRunning with
  | true =>
    exact (TakenAlike.record x { s.cross x with state := .holding } []).congr fun t _ =>
      (becomeHolding_eq (t.asAt s) x).trans (if_pos hg)
  | false =>
    exact (decideReturn_takenAlike s x).congr fun t _ =>
      (becomeHolding_eq (t.asAt s) x).trans (if_neg (Bool.eq_false_iff.mp hg))

theorem emptiedQueue_takenAlike : TakenAlike k s (emptiedQueue x) := by
  cases h : (s.cross x).state with
  | passing => exact (becomeOpen_takenAlike s x).congr fun t _ => emptiedQueue_passing (t.asAt s) x h
  | diverted => exact (becomeHolding_takenAlike s x).congr fun t _ => emptiedQueue_diverted (t.asAt s) x h
  | fault =>
    exact (TakenAlike.record x { s.cross x with
      state := if (s.cross x).config.enabled then .fault else .disabled } []).congr fun t _ =>
        emptiedQueue_fault (t.asAt s) x h
  | throwing => exact TakenAlike.unchanged.congr fun t _ => emptiedQueue_stays (t.asAt s) x (.inl h)
  | returning => exact TakenAlike.unchanged.congr fun t _ => emptiedQueue_stays (t.asAt s) x (.inr h)
  | disabled | opened | holding | dark =>
    have same (t : State) : ((t.asAt s).cross x).state = (s.cross x).state := rfl
    exact TakenAlike.unchanged.congr fun t _ => by simp only [emptiedQueue, same, h, id]

/-! ### Passages (R25, R81) -/

/-- A CHANGED outcome finds nothing to disarm at a disarmed slot. -/
theorem handChanged_disarmed {s : State} (disarmed : (s.slot k).wish = false) : handChanged (some k) s = s := by
  have same : (s.slot k).judged .changed = s.slot k := by simp [Slot.judged, ← disarmed]
  rw [handChanged_some, same, setSlot_slot]

theorem completePassage_takenAlike {e : ZoneEntry} {outcome : PassageOutcome}
    (ours : outcome = .changed → e.slot = some k) (rest : List ZoneEntry) (exit : Option (Time × ExitSensor)) :
    TakenAlike k s (completePassage x e rest outcome exit) := by
  refine (TakenAlike.record x ((s.cross x).passed rest (e.record outcome exit))
    (if outcome = .stayed then [] else [.notice (.lane x e.slot outcome)])).congr fun t disarmed => ?_
  rw [completePassage_eq]
  congr 1
  dsimp only
  split
  · rename_i changed
    rw [ours changed]
    exact handChanged_disarmed disarmed
  · rfl

/-- A removal whose outcome is CHANGED only for an entry of the disarmed slot (R25, R81). -/
theorem removeEntry_takenAlike {e : ZoneEntry} {outcome : PassageOutcome}
    (ours : outcome = .changed → e.slot = some k) (rest : List ZoneEntry) (exit : Option (Time × ExitSensor)) :
    TakenAlike k s (removeEntry x e rest outcome exit) := by
  have passed := completePassage_takenAlike s x ours rest exit
  cases hr : rest.isEmpty with
  | true =>
    exact (passed.comp fun u => emptiedQueue_takenAlike u x).congr fun t _ => if_pos hr
  | false => exact passed.congr fun t _ => if_neg (Bool.eq_false_iff.mp hr)

/-! ### Approaches (R72 to R76) -/

theorem displaceSlot_takenAlike (slot : Option SlotNo) : TakenAlike k s (displaceSlot x slot) := by
  cases slot with
  | none => exact TakenAlike.unchanged
  | some j =>
    have zone (t : State) : ((t.asAt s).cross x).zone = (s.cross x).zone := rfl
    cases found : (s.cross x).zone.find? fun e => e.slot == some j with
    | none => exact TakenAlike.unchanged.congr fun t _ => by simp only [displaceSlot, zone, found, id]
    | some e =>
      exact (completePassage_takenAlike s x (e := e) (outcome := .unverified) nofun
        ((s.cross x).zone.eraseP fun e => e.slot == some j) none).congr fun t _ => by
        simp only [displaceSlot, zone, found]

theorem displaceHead_takenAlike : TakenAlike k s (displaceHead x) := by
  have zone (t : State) : ((t.asAt s).cross x).zone = (s.cross x).zone := rfl
  cases hz : (s.cross x).zone with
  | nil => exact TakenAlike.unchanged.congr fun t _ => by simp only [displaceHead, zone, hz, id]
  | cons e rest =>
    by_cases full : Config.zoneCapacity ≤ rest.length + 1
    · exact (completePassage_takenAlike s x (e := e) (outcome := .unverified) nofun rest none).congr fun t _ => by
        simp only [displaceHead, zone, hz, if_pos full]
    · exact TakenAlike.unchanged.congr fun t _ => by simp only [displaceHead, zone, hz, if_neg full, id]

/-- The crossover with a new entry of slot `k` that is not wished (R71, R74 to R76). -/
def enteredUnwished (x : CrossNo) (k : SlotNo) (s : State) : Crossover :=
  let decided := approachDecision (s.cross x) (decide (8 ≤ s.commands.length)) false
  { s.cross x with
    zone := (s.cross x).zone ++ [⟨some k, false, decided.1, s.time, s.after (s.cross x).config.clear⟩]
    state := decided.2 }

/-- The approach of a disarmed slot is not wished (R71), so no THROW is queued with its entry. -/
theorem appendEntry_disarmed {s : State} (disarmed : (s.slot k).wish = false) :
    appendEntry x (some k) s = s.setCross x (enteredUnwished x k s) := by
  have unthrown : ¬((s.cross x).state = .opened ∧ (approachDecided x (some k) s).2 = .throwing) := by
    rintro ⟨opened, thrown⟩
    simp [approachDecided, approachWished, disarmed, approachDecision, opened] at thrown
  rw [appendEntry_plain s x _ unthrown]
  simp only [entered, approachDecided, approachWished, disarmed, enteredUnwished]

theorem appendEntry_takenAlike : TakenAlike k s (appendEntry x (some k)) :=
  (TakenAlike.record x (enteredUnwished x k s) []).congr fun _ disarmed => appendEntry_disarmed x disarmed

/-- The emptied-queue rule where an approach's displacement removed the last entry (R72 ②). -/
def settle (x : CrossNo) (held : Bool) (s : State) : State :=
  if held && (s.cross x).zone.isEmpty then emptiedQueue x s else s

/-- The new entry where the crossover is still active (R72 ③). -/
def enter (x : CrossNo) (slot : Option SlotNo) (s : State) : State :=
  if (s.cross x).state.active then appendEntry x slot s else s

theorem takeApproach_eq (slot : Option SlotNo) : takeApproach x slot s =
    enter x slot (settle x (!(s.cross x).zone.isEmpty) (displaceHead x (displaceSlot x slot s))) := rfl

theorem settle_takenAlike (held : Bool) : TakenAlike k s (settle x held) := by
  by_cases emptied : (held && (s.cross x).zone.isEmpty) = true
  · exact (emptiedQueue_takenAlike s x).congr fun t _ => if_pos emptied
  · exact TakenAlike.unchanged.congr fun t _ => if_neg emptied

theorem enter_takenAlike : TakenAlike k s (enter x (some k)) := by
  by_cases active : (s.cross x).state.active = true
  · exact (appendEntry_takenAlike s x).congr fun t _ => if_pos active
  · exact TakenAlike.unchanged.congr fun t _ => if_neg active

theorem takeApproach_takenAlike : TakenAlike k s (takeApproach x (some k)) :=
  ((((displaceSlot_takenAlike s x (some k)).comp fun u => displaceHead_takenAlike u x).comp
    fun u => settle_takenAlike u x (!(s.cross x).zone.isEmpty)).comp fun u => enter_takenAlike u x).congr
    fun t _ => takeApproach_eq (t.asAt s) x (some k)

/-! ### Exits and sightings (R64, R78 to R81) -/

theorem takeExit_takenAlike (sensor : ExitSensor) : TakenAlike k s (takeExit x sensor (some k)) := by
  have zone (t : State) : ((t.asAt s).cross x).zone = (s.cross x).zone := rfl
  have time (t : State) : (t.asAt s).time = s.time := rfl
  cases found : (s.cross x).zone.find? fun e => e.slot == some k with
  | none => exact TakenAlike.unchanged.congr fun t _ => by simp only [takeExit, zone, found, id]
  | some e =>
    have ours : e.slot = some k := by simpa using List.find?_some found
    exact (removeEntry_takenAlike s x (outcome := exitOutcome e sensor) (fun _ => ours)
      ((s.cross x).zone.eraseP fun e => e.slot == some k) (some (s.time, sensor))).congr fun t _ => by
      simp only [takeExit, zone, time, found]

/-- The Crossover Controller makes the same of a sighting of a disarmed slot whatever entries, windows and slots the part
holds, so also before and after a binding (R64, R65). -/
theorem crossSighting_takenAlike (sensor : Sensor) : TakenAlike k s (crossSighting x sensor (some k)) := by
  by_cases active : (s.cross x).state.active = true
  · cases sensor with
    | a => exact (takeApproach_takenAlike s x).congr fun t _ => if_pos active
    | exit e => exact (takeExit_takenAlike s x e).congr fun t _ => if_pos active
  · exact TakenAlike.unchanged.congr fun t _ => if_neg active

end Sys2Proof.Machine
end

section
/-! A sighting that binds the head window's entry, alone or together with a crossover (R43, R44, R64, R65). -/

namespace Sys2Proof.Machine

variable {s : State}

/-! ### The binding (R44) -/

/-- The part after entry `h` is bound to slot `k` by a sighting, but for what is handed on: the slot it had freed, the
binding made and the window gone (R44). -/
def boundBySighting (h : EntryNo) (k : SlotNo) (s : State) : State := windowClosed h (boundAnew h k s)

/-- What a binding by sighting hands on: WINDOW_CLOSED(BOUND) and BOUND to the handset, and the notice (R40, R44). -/
def bindingOutputs (id : RadioId) (h : EntryNo) (k : SlotNo) : List Output :=
  [.echo id (.windowClosed .bound), .echo id (.bound k), .notice (.bound h k)]

/-- A slot without a source has no binding to break. -/
theorem boundAnew_sourceless {h : EntryNo} {k : SlotNo} (free : (s.slot k).source = .none) :
    boundAnew h k s = makeBinding h k (breakBindingOf h s) := by
  have unbound (g : EntryNo) : ((breakBindingOf h s).slot k).source ≠ .handset g := by
    rw [breakBindingOf_slot]
    split <;> simp [Slot.freed, free]
  rw [boundAnew, breakBindingAt_unbound _ unbound]

/-- An eligible sighting binds the head window's entry (R43, R44). -/
theorem pairSighting_binds {k : SlotNo} {wd : Window} {rest : List Window} {e : Enrolled}
    (free : (s.slot k).source = .none) (head : s.windows = wd :: rest) (he : s.entry wd.entry = some e) :
    pairSighting (some k) s = emit (bindingOutputs e.radioId wd.entry k) (boundBySighting wd.entry k s) := by
  have willPair : eligible k s = true := by simp [eligible, free, head]
  have bound : ((boundAnew wd.entry k s).entry wd.entry).radio = (s.entry wd.entry).radio := by
    rw [boundAnew_entry_self, withBound_radio]
  have closed : ((boundBySighting wd.entry k s).entry wd.entry).radio = (s.entry wd.entry).radio := by
    rw [boundBySighting, windowClosed_radio, bound]
  simp only [pairSighting, head, if_pos willPair, ← boundAnew_sourceless free, closeWindow_eq, if_true, List.append_nil,
    echoTo_eq, queueNotice_eq, emit_emit, echoOutput_emit]
  rw [echoOutput_of_radio bound, ← windowClosed, ← boundBySighting, echoOutput_of_radio closed, echoOutput_some s he,
    echoOutput_some s he]
  rfl

/-- The head window is its entry's only one (R36). -/
theorem otherWindows_head {wd : Window} {rest : List Window} (inv : WindowInv s) (head : s.windows = wd :: rest) :
    otherWindows wd.entry s = rest := by
  obtain ⟨-, nodup, -⟩ := inv
  rw [head, List.map_cons, List.nodup_cons] at nodup
  obtain ⟨only, -⟩ := nodup
  rw [otherWindows, head, List.filter_cons_of_neg (by simp), List.filter_eq_self]
  intro v hv
  have : v.entry ≠ wd.entry := fun same => only (same ▸ List.mem_map_of_mem hv)
  simpa using this

/-- Outside the slot records the binding replaces the entry and the window list alone. -/
theorem boundBySighting_frame {h : EntryNo} {k : SlotNo} (free : (s.slot k).source = .none) :
    boundBySighting h k s = { s.setEntry h (((s.entry h).withWindow false).withBound (some k)) with
      windows := otherWindows h s, slots := (boundBySighting h k s).slots } := by
  have made : boundAnew h k s = { s.setEntry h ((s.entry h).withBound (some k)) with
      slots := (boundAnew h k s).slots } := by
    rw [boundAnew_sourceless free, breakBindingOf_eq, makeBinding_eq, entry_setEntry_self, withBound_withBound,
      setSlot_setEntry, setEntry_setEntry, atSlot_frame]
    rfl
  have closed : boundBySighting h k s = { boundAnew h k s with windows := otherWindows h (boundAnew h k s) }.setEntry h
      (((s.entry h).withWindow false).withBound (some k)) := by
    rw [boundBySighting, windowClosed, boundAnew_entry_self, withWindow_withBound]
  have slots : (boundBySighting h k s).slots = (boundAnew h k s).slots := rfl
  rw [slots, closed]
  generalize (boundAnew h k s).slots = slots at made ⊢
  rw [made]
  exact congrArg (fun t : State => { t with windows := otherWindows h s, slots := slots }) (setEntry_setEntry s h _ _)

/-- The binding leaves every crossover as it was. -/
theorem boundBySighting_cross (h : EntryNo) (k : SlotNo) (x : CrossNo) :
    (boundBySighting h k s).cross x = s.cross x := by
  rw [boundBySighting, boundAnew_frame]
  rfl

theorem boundBySighting_slot_self (h : EntryNo) (k : SlotNo) :
    (boundBySighting h k s).slot k = (s.slot k).boundTo h (s.entry h).isLost := boundAnew_slot_self s h k

theorem boundBySighting_slot_of_ne (h : EntryNo) {k j : SlotNo} (hj : j ≠ k) :
    (boundBySighting h k s).slot j = if (s.entry h).boundSlot = some j then (s.slot j).freed else s.slot j :=
  boundAnew_slot_of_ne s h k hj

theorem emit_boundBySighting (o : List Output) (h : EntryNo) (k : SlotNo) :
    boundBySighting h k (emit o s) = emit o (boundBySighting h k s) := by
  rw [boundBySighting, emit_boundAnew]
  rfl

/-- The binding neither reads nor writes the crossovers. -/
theorem boundBySighting_withCrossings {h : EntryNo} {k : SlotNo} (free : (s.slot k).source = .none)
    (crossovers : Vector Crossover 16) (commands : List SectionCommand) :
    boundBySighting h k (s.withCrossings crossovers commands) =
      (boundBySighting h k s).withCrossings crossovers commands := by
  have broken : breakBindingOf h (s.withCrossings crossovers commands) =
      (breakBindingOf h s).withCrossings crossovers commands := by
    rw [breakBindingOf_eq, breakBindingOf_eq, withCrossings_entry]
    cases (s.entry h).boundSlot <;> rfl
  rw [boundBySighting, boundAnew_sourceless (s := s.withCrossings crossovers commands) free, broken, boundBySighting,
    boundAnew_sourceless free]
  rfl

/-! ### The sighting (R61 to R65) -/

/-- A sighting that is not malformed is handed on with the slot it is classified to (R61, R62, R64). -/
theorem sighting_handed {x : CrossNo} {b p w : Byte} {sensor : Sensor} {slot : Option SlotNo}
    (hb : sensorArg b = some sensor) (good : GoodMeasurement p w) (inv : BeaconInv s) (measures : Measures s p w slot) :
    exec (.sighting x b p w) s = .next (handSighting x sensor slot s.reportTaken) := by
  have formed : ¬(p = 0 ∨ p.toNat < w.toNat) := by
    obtain ⟨positive, within⟩ := good
    rintro (rfl | above)
    · simp at positive
    · omega
  have classified : classify s.reportTaken ⟨p.toNat, w.toNat⟩ = slot := classify_of_measures inv measures
  simp only [exec, execSighting, takeSighting, hb, if_neg formed, classified]

/-- The sensor bytes that name a sensor (Table 12-12). -/
theorem sensorArg_some {b : Byte} (hb : b ∈ ([0, 1, 2] : List Byte)) : ∃ sensor, sensorArg b = some sensor := by
  simp only [List.mem_cons, List.not_mem_nil, or_false] at hb
  rcases hb with rfl | rfl | rfl <;> exact ⟨_, rfl⟩

/-- A crossover that is DISABLED or DARK drops sightings (R64, R69). -/
theorem active_iff {c : CrossState} : c.active = false ↔ c = .disabled ∨ c = .dark := by
  cases c <;> simp [CrossState.active]

theorem crossSighting_dropped {x : CrossNo} (dropped : (s.cross x).state.active = false) (sensor : Sensor)
    (slot : Option SlotNo) : crossSighting x sensor slot s = s := if_neg (by simp [dropped])

/-- The count of free values drawn after a binding by a sighting at crossover `x`: the order of the two units is one,
where both act (R65; log entry 5). -/
def drawsOfBinding (x : CrossNo) (s : State) : Nat :=
  if (s.cross x).state = .disabled ∨ (s.cross x).state = .dark then s.freeDraws else s.freeDraws + 1

section

variable {x : CrossNo} {sensor : Sensor} {k : SlotNo} {wd : Window} {rest : List Window} {e : Enrolled}
  (free : (s.slot k).source = .none) (head : s.windows = wd :: rest) (he : s.entry wd.entry = some e)
include free head he

/-- At a crossover that drops sightings the binding is all (R64). -/
theorem handSighting_dropped (dropped : (s.cross x).state.active = false) : handSighting x sensor (some k) s =
    emit (bindingOutputs e.radioId wd.entry k) (boundBySighting wd.entry k s) := by
  have alone : handSighting x sensor (some k) s = crossSighting x sensor (some k) (pairSighting (some k) s) :=
    if_neg (by simp [dropped])
  have still : ((emit (bindingOutputs e.radioId wd.entry k) (boundBySighting wd.entry k s)).cross x).state.active =
      false := by
    rw [emit_cross, boundBySighting_cross, dropped]
  rw [alone, pairSighting_binds free head he, crossSighting_dropped still]

/-- At an active crossover both take the sighting, and the crossover makes the same of it before and after the binding;
the order decides that of the outputs alone (R64, R65). -/
theorem handSighting_taken (active : (s.cross x).state.active = true) (disarmed : (s.slot k).wish = false)
    {passage : List Output} {crossovers : Vector Crossover 16} {commands : List SectionCommand}
    (taken : ∀ t : State, (t.slot k).wish = false →
      crossSighting x sensor (some k) (t.asAt s) = emit passage ((t.asAt s).withCrossings crossovers commands)) :
    ∃ outputs, handSighting x sensor (some k) s =
        emit outputs ((boundBySighting wd.entry k s.draw).withCrossings crossovers commands) ∧
      (outputs = bindingOutputs e.radioId wd.entry k ++ passage ∨
        outputs = passage ++ bindingOutputs e.radioId wd.entry k) := by
  have both : (willPair (some k) s && (s.cross x).state.active) = true := by
    simp [willPair, eligible, free, head, active]
  simp only [handSighting, if_pos both]
  cases Config.pairingTakesFirst s.freeDraws with
  | true =>
    refine ⟨_, ?_, .inl rfl⟩
    have seen : (emit (bindingOutputs e.radioId wd.entry k) (boundBySighting wd.entry k s.draw)).asAt s =
        emit (bindingOutputs e.radioId wd.entry k) (boundBySighting wd.entry k s.draw) := by
      rw [boundBySighting_frame (s := s.draw) free]
      rfl
    rw [if_pos rfl, pairSighting_binds (s := s.draw) free head he, ← seen, taken, seen, ← emit_emit]
    · rfl
    · rw [emit_slot, boundBySighting_slot_self]
      rfl
  | false =>
    refine ⟨_, ?_, .inr rfl⟩
    have crossed : crossSighting x sensor (some k) s.draw = emit passage (s.draw.withCrossings crossovers commands) :=
      taken s.draw disarmed
    rw [if_neg Bool.false_ne_true, crossed,
      pairSighting_binds (s := emit passage (s.draw.withCrossings crossovers commands)) free head he,
      emit_boundBySighting, boundBySighting_withCrossings (s := s.draw) free, emit_emit]

/-- An eligible sighting at any crossover: with `passage` what the crossover hands on where no window waits, and with the
crossover table and the section command queue that it leaves there, the binding is made, and a free value is drawn where
both units act (R43, R44, R64, R65). -/
theorem handSighting_binds (disarmed : (s.slot k).wish = false) :
    ∃ (passage : List Output) (crossovers : Vector Crossover 16) (commands : List SectionCommand)
      (outputs : List Output),
      crossSighting x sensor (some k) { s with windows := [] } =
        emit passage ({ s with windows := [] }.withCrossings crossovers commands) ∧
      ((s.cross x).state = .disabled ∨ (s.cross x).state = .dark →
        passage = [] ∧ s.withCrossings crossovers commands = s) ∧
      handSighting x sensor (some k) s = emit outputs
        ((boundBySighting wd.entry k { s with freeDraws := drawsOfBinding x s }).withCrossings crossovers commands) ∧
      (outputs = bindingOutputs e.radioId wd.entry k ++ passage ∨
        outputs = passage ++ bindingOutputs e.radioId wd.entry k) := by
  cases active : (s.cross x).state.active with
  | false =>
    have idle := active_iff.mp active
    refine ⟨[], s.crossovers, s.commands, bindingOutputs e.radioId wd.entry k,
      crossSighting_dropped (s := { s with windows := [] }) active sensor _, fun _ => ⟨rfl, rfl⟩, ?_,
      .inr rfl⟩
    rw [drawsOfBinding, if_pos idle, handSighting_dropped free head he active]
    exact congrArg _ (boundBySighting_withCrossings free s.crossovers s.commands)
  | true =>
    have busy : ¬((s.cross x).state = .disabled ∨ (s.cross x).state = .dark) := fun idle =>
      Bool.false_ne_true ((active_iff.mpr idle).symm.trans active)
    obtain ⟨passage, crossovers, commands, taken⟩ := crossSighting_takenAlike (k := k) s x sensor
    obtain ⟨outputs, handed, order⟩ := handSighting_taken free head he active disarmed taken
    refine ⟨passage, crossovers, commands, outputs, taken { s with windows := [] } disarmed,
      fun idle => absurd idle busy, ?_, order⟩
    rw [drawsOfBinding, if_neg busy]
    exact handed
end

/-- The head window's entry is LIVE, so a binding puts no slot in failsafe (R27, R36). -/
theorem head_notLost {wd : Window} {rest : List Window} (inv : WindowInv s) (head : s.windows = wd :: rest) :
    (s.entry wd.entry).isLost = false := by
  have live := isLive_of_listed inv (w := wd) (by simp [head])
  rcases hw : s.entry wd.entry with _ | ⟨id, m, bound, _ | _⟩ <;> simp_all [Entry.isLost, Entry.isLive]

/-- Settles O42: an eligible sighting is handed on to the Pairing Unit alone or to both units, and one that does nothing
to pairing is dropped. -/
theorem eligibleSightingBindsTheHeadWindow : Obligations.EligibleSightingBindsTheHeadWindow := by
  unfold Obligations.EligibleSightingBindsTheHeadWindow
  intro s x b p w inv beacons good hb
  obtain ⟨sensor, hs⟩ := sensorArg_some hb
  refine ⟨fun k wd rest e binding measures free head he hbinding => ?binds, fun slot idle measures quiet => ?drops⟩
  case drops =>
    rw [sighting_of_noPairing s hs good (classify_of_measures beacons measures) quiet,
      crossSighting_dropped (s := s.reportTaken) (active_iff.mpr idle)]
  case binds =>
    subst hbinding
    obtain ⟨windows, -, -, disarmed⟩ := inv
    obtain ⟨passage, crossovers, commands, outputs, alone, idle, handed, order⟩ :=
      handSighting_binds (s := s.reportTaken) (x := x) (sensor := sensor) free head he (disarmed k free)
    refine ⟨passage, { s.reportTaken with windows := [] }.withCrossings crossovers commands,
      (boundBySighting wd.entry k { s.reportTaken with freeDraws := drawsOfBinding x s }).withCrossings crossovers
        commands, outputs, ?alone, rfl, rfl, ?idle, ?handed, order, ?frame, ?self, fun j hj => ?others⟩
    case alone =>
      rw [sighting_of_noPairing { s with windows := [] } hs good
        (classify_of_measures (slot := some k) beacons measures) fun _ _ => .inr rfl]
      exact congrArg _ alone
    case idle =>
      intro dropped
      obtain ⟨silent, same⟩ := idle dropped
      exact ⟨silent, congrArg (fun t : State => { t with windows := [] }) same⟩
    case handed =>
      rw [sighting_handed hs good beacons measures, handed]
      rfl
    case frame =>
      rw [boundBySighting_frame (s := { s.reportTaken with freeDraws := drawsOfBinding x s }) free,
        otherWindows_head (s := { s.reportTaken with freeDraws := drawsOfBinding x s }) windows head]
      rfl
    case self =>
      rw [withCrossings_slot, boundBySighting_slot_self]
      exact congrArg (fun lost => (s.slot k).boundTo wd.entry lost) (head_notLost windows head)
    case others =>
      rw [withCrossings_slot, boundBySighting_slot_of_ne _ hj]
      exact congrArg (fun e : Entry => if e.boundSlot = some j then (s.slot j).freed else s.slot j) he

end Sys2Proof.Machine
end

section
/-! The Beacon Matcher: which codes clash, the codes that BEACON, BEACON-CLEAR and TOLERANCE leave, and the separation
that every edit keeps (R53 to R58). -/

namespace Sys2Proof.Machine

/-! ### Distances (R53, R54) -/

theorem absDiff_cast (a b : Nat) : (absDiff a b : ℤ) = |(a : ℤ) - b| := by
  rcases le_total a b with below | above
  · rw [absDiff, Nat.sub_eq_zero_of_le below, Nat.zero_add, Nat.cast_sub below, abs_sub_comm,
      abs_of_nonneg (by omega)]
  · rw [absDiff, Nat.sub_eq_zero_of_le above, Nat.add_zero, Nat.cast_sub above, abs_of_nonneg (by omega)]

theorem distance_cast (a b : Code) :
    (distance a b : ℤ) = |(a.cycle : ℤ) - b.cycle| + |(a.duty : ℤ) - b.duty| := by
  rw [distance, Nat.cast_add, absDiff_cast, absDiff_cast]

theorem distance_comm (a b : Code) : distance a b = distance b a := by
  simp only [distance, absDiff_comm]

/-- The farthest that a code and a measurement, or two codes, lie apart. -/
theorem distance_le {a b : Code} (ok : CodeOk a) (cycle : 1 ≤ b.cycle ∧ b.cycle ≤ 255) (duty : b.duty ≤ b.cycle) :
    distance a b ≤ 508 := by
  simp only [distance, absDiff]
  omega

variable {s t : State}

/-! ### Classification (R62) -/

/-- The slot of a measurement has a code within the tolerance of it. -/
theorem near_of_classify {m : Code} {k : SlotNo} (classified : classify s m = some k) :
    ∃ c, s.code k = some c ∧ distance m c ≤ s.tolerance := by
  have near := find_finRange_test classified
  cases hc : s.code k with
  | none => simp [hc] at near
  | some c => exact ⟨c, rfl, by simpa [hc] using near⟩

/-- An UNKNOWN measurement is outside the tolerance of every code. -/
theorem far_of_classify {m : Code} (unknown : classify s m = none) {k : SlotNo} {c : Code} (hc : s.code k = some c) :
    s.tolerance < distance m c := by
  simpa [hc] using find_finRange_none.mp unknown k

/-- No measurement is within the tolerance of two codes (R54). -/
theorem near_unique (inv : BeaconInv s) {m a b : Code} {j k : SlotNo} (ha : s.code j = some a) (hb : s.code k = some b)
    (nearA : distance m a ≤ s.tolerance) (nearB : distance m b ≤ s.tolerance) : j = k :=
  Option.some.inj ((classify_some inv ha nearA).symm.trans (classify_some inv hb nearB))

/-! ### Clashes (R54, R56, R58) -/

theorem clash_eq_false {n : Nat} {a b : Option Code} :
    clash n a b = false ↔ ∀ c d, a = some c → b = some d → 2 * n < distance c d := by
  cases a <;> cases b <;> simp [clash]

theorem clash_some_eq_false {n : Nat} {a : Code} {b : Option Code} :
    clash n (some a) b = false ↔ ∀ d, b = some d → 2 * n < distance a d := by
  cases b <;> simp [clash]

theorem clash_some {n : Nat} {a b : Code} : clash n (some a) (some b) = true ↔ distance a b ≤ 2 * n := by
  simp [clash]

/-- A new code clashes with none when every other slot's code is more than twice the tolerance away (R56). -/
theorem beaconClash_none {k : SlotNo} {new : Code} : beaconClash s k new = none ↔
    ∀ j a, j ≠ k → s.code j = some a → 2 * s.tolerance < distance new a := by
  refine find_finRange_none.trans (forall_congr' fun j => ?_)
  by_cases hj : j = k
  · simp [hj]
  · simp [hj, clash_some_eq_false]

/-- A new code that clashes does so first with the lowest such slot (R56). -/
theorem beaconClash_some {j k : SlotNo} {new a : Code} (other : j ≠ k) (ha : s.code j = some a)
    (near : distance new a ≤ 2 * s.tolerance)
    (least : ∀ i b, i < j → i ≠ k → s.code i = some b → 2 * s.tolerance < distance new b) :
    beaconClash s k new = some j := by
  refine find_finRange_some (by simp [other, ha, clash_some, near]) fun i hi => ?_
  by_cases hk : i = k
  · simp [hk]
  · simpa [hk, clash_some_eq_false] using fun b => least i b hi hk

/-- The first pair of indices, in the order of the first and then of the second, that satisfies a test is the one
found. -/
theorem find_pairs_some {n : Nat} {p : Fin n × Fin n → Bool} {j k : Fin n} (hp : p (j, k) = true)
    (least : ∀ i l, i < j ∨ (i = j ∧ l < k) → p (i, l) = false) :
    ((List.finRange n).flatMap fun i => (List.finRange n).map fun l => (i, l)).find? p = some (j, k) := by
  have row (i : Fin n) : ((List.finRange n).map fun l => (i, l)).find? p =
      ((List.finRange n).find? fun l => p (i, l)).map fun l => (i, l) := List.find?_map
  obtain ⟨pre, post, split⟩ := List.append_of_mem (List.mem_finRange j)
  have before : ∀ i ∈ pre, i < j := by
    have sorted := List.pairwise_lt_finRange n
    rw [split, List.pairwise_append] at sorted
    obtain ⟨-, -, below⟩ := sorted
    exact fun i hi => below i hi j (by simp)
  have earlier : (pre.findSome? fun i => ((List.finRange n).map fun l => (i, l)).find? p) = none := by
    refine List.findSome?_eq_none_iff.mpr fun i hi => ?_
    rw [row, find_finRange_none.mpr fun l => least i l (.inl (before i hi)), Option.map_none]
  have here : ((List.finRange n).map fun l => (j, l)).find? p = some (j, k) := by
    rw [row, find_finRange_some hp fun l hl => least j l (.inr ⟨rfl, hl⟩), Option.map_some]
  rw [List.find?_flatMap, split, List.findSome?_append, ← split, earlier, Option.none_or, List.findSome?_cons, here]

/-- A tolerance passes when every two codes are more than twice it apart (R58). -/
theorem toleranceClash_none {n : Nat} : toleranceClash s n = none ↔
    ∀ j k c d, j < k → s.code j = some c → s.code k = some d → 2 * n < distance c d := by
  simp only [toleranceClash, List.find?_eq_none, List.mem_flatMap, List.mem_map, List.mem_finRange, true_and,
    Bool.and_eq_true, decide_eq_true_eq, not_and, Bool.not_eq_true, clash_eq_false]
  exact ⟨fun apart j k c d hjk => apart (j, k) ⟨j, k, rfl⟩ hjk c d, fun apart _ _ hjk c d => apart _ _ c d hjk⟩

/-- A tolerance that does not pass is refused for the first pair of codes within twice it (R58). -/
theorem toleranceClash_some {n : Nat} {j k : SlotNo} {c d : Code} (hjk : j < k) (hc : s.code j = some c)
    (hd : s.code k = some d) (near : distance c d ≤ 2 * n)
    (least : ∀ i l p q, i < l → (i < j ∨ (i = j ∧ l < k)) → s.code i = some p → s.code l = some q →
      2 * n < distance p q) : toleranceClash s n = some (j, k) := by
  refine find_pairs_some (by simp [hjk, hc, hd, clash_some, near]) fun i l earlier => ?_
  by_cases hil : i < l
  · simpa [hil, clash_eq_false] using fun p q => least i l p q hil earlier
  · simp [hil]

/-- A tolerance that is lowered or unchanged passes (R58). -/
theorem toleranceClash_lowered (inv : BeaconInv s) {n : Nat} (lowered : n ≤ s.tolerance) :
    toleranceClash s n = none := by
  obtain ⟨-, -, apart⟩ := inv
  refine toleranceClash_none.mpr fun j k c d hjk hc hd => ?_
  have far := apart j k hjk.ne c hc d hd
  omega

/-- With fewer than two codes every tolerance passes (R58). -/
theorem toleranceClash_lone {j : SlotNo} (lone : ∀ k, k ≠ j → s.code k = none) (n : Nat) :
    toleranceClash s n = none := by
  have only {k : SlotNo} {c : Code} (hc : s.code k = some c) : k = j := by
    by_contra other
    simp [lone k other] at hc
  exact toleranceClash_none.mpr fun i l c d hil hc hd => absurd ((only hc).trans (only hd).symm) hil.ne

/-! ### The separation of the codes (R53, R54) -/

/-- A code that passed its check, or none, in place of a slot's. -/
theorem setCode_beaconInv (inv : BeaconInv s) {k : SlotNo} {c : Option Code}
    (ok : ∀ new ∈ c, CodeOk new ∧ beaconClash s k new = none) : BeaconInv (s.setCode k c) := by
  obtain ⟨range, codes, apart⟩ := inv
  have newApart {new : Code} (hnew : new ∈ c) {j : SlotNo} (other : j ≠ k) {a : Code} (ha : a ∈ s.code j) :
      2 * s.tolerance < distance new a := beaconClash_none.mp (ok new hnew).2 j a other ha
  refine ⟨range, fun j d hd => ?_, fun i j hij a ha b hb => ?_⟩
  · rw [code_setCode] at hd
    split at hd
    · exact (ok d hd).1
    · exact codes j d hd
  · rw [code_setCode] at ha hb
    rw [setCode_tolerance]
    split at ha
    case isTrue hi =>
      subst hi
      exact newApart ha hij.symm (by rwa [if_neg hij] at hb)
    case isFalse hi =>
      split at hb
      case isTrue hj =>
        subst hj
        exact distance_comm a b ▸ newApart hb hij ha
      case isFalse hj => exact apart i j hij a ha b hb

/-- A tolerance in range that passed its check. -/
theorem setTolerance_beaconInv (inv : BeaconInv s) {n : Nat} (range : 1 ≤ n ∧ n ≤ 63)
    (passed : toleranceClash s n = none) : BeaconInv { s with tolerance := n } := by
  obtain ⟨-, codes, -⟩ := inv
  refine ⟨range, codes, fun j k hjk a ha b hb => ?_⟩
  rcases lt_or_gt_of_ne hjk with below | above
  · exact toleranceClash_none.mp passed j k a b below ha hb
  · exact distance_comm a b ▸ toleranceClash_none.mp passed k j b a above hb ha

/-- Every edit keeps the codes separated. -/
theorem Edit.beaconInv (h : Edit s t) (inv : BeaconInv s) : BeaconInv t := by
  cases h with
  | code k c ok => exact setCode_beaconInv inv ok
  | tolerance n range passed => exact setTolerance_beaconInv inv range passed
  | poweredOn asserted => exact poweredOn_beaconInv asserted s
  | _ => exact inv

/-- Settles O7: a code or a tolerance is taken only when it passed its check against every other code. -/
theorem stepKeepsTheCodesSeparated : Obligations.StepKeepsTheCodesSeparated := by
  unfold Obligations.StepKeepsTheCodesSeparated
  refine ⟨fun a b => ⟨distance_cast a b, distance_comm a b⟩, fun a b ok ⟨low, high, duty⟩ =>
    distance_le ok ⟨low, high⟩ duty, fun s t inv ht => ?step, reset_eq_poweredOn ▸ poweredOn_beaconInv false State.reset,
    fun s m a b j k inv ha hb nearA nearB => near_unique inv ha hb nearA nearB⟩
  case step =>
    obtain ⟨rest, changes⟩ := step_changes ht
    exact changes.keep (P := BeaconInv) Edit.beaconInv (fun _ _ inv => inv) inv

/-! ### BEACON and BEACON-CLEAR (R55 to R57) -/

variable (s) (tag : Byte)

section
variable {k : SlotNo} {cHi cLo dHi dLo : Byte} {new : Code} (clamped : codeArgs cHi cLo dHi dLo = new)
include clamped

/-- A code more than twice the tolerance from every other is stored as clamped (R55, R56). -/
theorem beaconRequest_stores (apart : beaconClash s k new = none) :
    beaconRequest tag [byte (k.val + 1), cHi, cLo, dHi, dLo] s =
      emit [okReply tag 0x30 [byte new.cycle, byte new.duty]] (s.setCode k (some new)) := by
  simp only [beaconRequest, slotArg_byte, clamped, apart, answer_eq]

theorem beaconRequest_clash {j : SlotNo} (clashes : beaconClash s k new = some j) :
    beaconRequest tag [byte (k.val + 1), cHi, cLo, dHi, dLo] s =
      emit [refusal tag 0x30 .codeClash [byte (j.val + 1)]] s := by
  simp only [beaconRequest, slotArg_byte, clamped, clashes, refuseWith_eq]

end

theorem beaconClearRequest_clears (k : SlotNo) :
    beaconClearRequest tag [byte (k.val + 1)] s = emit [okReply tag 0x31 []] (s.setCode k none) := by
  simp only [beaconClearRequest, slotArg_byte, answer_eq]

/-- A slot without a code is never the slot of a measurement (R57, R62). -/
theorem classify_ne_of_uncoded {k : SlotNo} (uncoded : s.code k = none) (m : Code) : classify s m ≠ some k := by
  intro classified
  obtain ⟨c, hc, -⟩ := near_of_classify classified
  simp [uncoded] at hc

/-- Settles O25: BEACON stores or refuses by its clash check, and a cleared slot has no code to be near. -/
theorem beaconRequestsSetAndClearACode : Obligations.BeaconRequestsSetAndClearACode := by
  unfold Obligations.BeaconRequestsSetAndClearACode
  refine ⟨fun s tag cHi cLo dHi dLo k c d room hc hd => ?beacon, fun s tag k room => ⟨?clear, fun m => ?gone⟩⟩
  case beacon =>
    have clamped : codeArgs cHi cLo dHi dLo = ⟨c, d⟩ := by subst hc hd; rfl
    refine ⟨fun apart => ?_, fun j a other ha near least => ?_⟩
    · exact request_taken room (beaconRequest_stores _ tag clamped (beaconClash_none.mpr apart))
    · exact request_taken room (beaconRequest_clash _ tag clamped (beaconClash_some other ha near least))
  case clear => exact request_taken room (beaconClearRequest_clears _ tag k)
  case gone => exact classify_ne_of_uncoded _ (code_setCode_self s k none) m

/-! ### TOLERANCE (R58) -/

theorem toleranceRequest_stores {b : Byte} (passed : toleranceClash s (clamp 1 63 b.toNat) = none) :
    toleranceRequest tag [b] s = emit [okReply tag 0x32 [byte (clamp 1 63 b.toNat)]]
      { s with tolerance := clamp 1 63 b.toNat } := by
  simp only [toleranceRequest, passed, answer_eq]

theorem toleranceRequest_clash {b : Byte} {j k : SlotNo}
    (clashes : toleranceClash s (clamp 1 63 b.toNat) = some (j, k)) :
    toleranceRequest tag [b] s =
      emit [refusal tag 0x32 .codeClash [byte (j.val + 1), byte (k.val + 1)]] s := by
  simp only [toleranceRequest, clashes, refuseWith_eq]

/-- Settles O26: TOLERANCE stores or refuses by its clash check, which each of the three cases passes. -/
theorem toleranceChecksEveryPair : Obligations.ToleranceChecksEveryPair := by
  unfold Obligations.ToleranceChecksEveryPair
  rintro s tag b v room rfl
  refine ⟨fun j k c d hjk hc hd near least => ?clash, fun passes => ?stores, fun m =>
    ⟨fun k => near_of_classify, fun unknown k c => far_of_classify unknown⟩⟩
  case clash => exact request_taken room (toleranceRequest_clash _ tag (toleranceClash_some hjk hc hd near least))
  case stores =>
    refine request_taken room (toleranceRequest_stores s.handTaken tag ?_)
    rcases passes with apart | ⟨inv, lowered⟩ | ⟨j, lone⟩
    · exact toleranceClash_none.mpr apart
    · exact toleranceClash_lowered inv lowered
    · exact toleranceClash_lone lone _

end Sys2Proof.Machine
end

section
/-! Which sightings are taken (R61), and the two units that take one in either order (R64, R65). -/

namespace Sys2Proof.Machine

variable {s : State}

/-! ### Malformed sightings (R61) -/

/-- The sensor bytes that name no sensor (Table 12-12). -/
theorem sensorArg_none {b : Byte} (unnamed : b ≠ 0 ∧ b ≠ 1 ∧ b ≠ 2) : sensorArg b = none := by
  obtain ⟨h0, h1, h2⟩ := unnamed
  rw [sensorArg, if_neg h0, if_neg h1, if_neg h2]

theorem takeSighting_unnamed {x : CrossNo} {b p w : Byte} (unnamed : sensorArg b = none) :
    takeSighting x b p w s = s := by
  simp only [takeSighting, unnamed]

/-- An impossible measurement is discarded whatever its sensor byte. -/
theorem takeSighting_impossible {x : CrossNo} {b p w : Byte} (impossible : p = 0 ∨ p.toNat < w.toNat) :
    takeSighting x b p w s = s := by
  unfold takeSighting
  split
  · rfl
  · exact if_pos impossible

theorem takeSighting_formed {x : CrossNo} {b p w : Byte} {sensor : Sensor} (hb : sensorArg b = some sensor)
    (positive : p ≠ 0) (within : w.toNat ≤ p.toNat) :
    takeSighting x b p w s = handSighting x sensor (classify s ⟨p.toNat, w.toNat⟩) s := by
  have possible : ¬(p = 0 ∨ p.toNat < w.toNat) := by
    rintro (zero | above)
    · exact positive zero
    · omega
  simp only [takeSighting, hb, if_neg possible]

/-- Settles O41: a sighting is discarded by its sensor byte or its measurement, and handed on otherwise. -/
theorem malformedSightingIsDiscarded : Obligations.MalformedSightingIsDiscarded := by
  unfold Obligations.MalformedSightingIsDiscarded
  refine fun s x b p w => ⟨fun malformed => congrArg Host.Outcome.next ?discarded,
    fun within positive sensor named => congrArg Host.Outcome.next ?taken⟩
  case discarded =>
    rcases malformed with above | zero | unnamed
    · exact takeSighting_impossible (.inr above)
    · exact takeSighting_impossible (.inl zero)
    · exact takeSighting_unnamed (sensorArg_none unnamed)
  case taken =>
    have hb : sensorArg b = some sensor := by
      rcases named with ⟨rfl, rfl⟩ | ⟨rfl, rfl⟩ | ⟨rfl, rfl⟩ <;> rfl
    exact takeSighting_formed hb positive within

/-! ### What the Crossover Controller leaves of pairing (R43, R65) -/

/-- What makes a sighting eligible for pairing: the windows, and the slots' sources. -/
def State.pairing (s : State) : List Window × (SlotNo → Source) := (s.windows, fun k => (s.slot k).source)

theorem pairing_of_bindings {t : State} (same : t.bindings = s.bindings) : t.pairing = s.pairing := by
  obtain ⟨-, windows, slots⟩ : t.handsets = s.handsets ∧ t.windows = s.windows ∧ t.slots = s.slots := by
    simpa [State.bindings] using same
  simp only [State.pairing, State.slot, windows, slots]

theorem noPairing_of_pairing {t : State} {slot : Option SlotNo} (same : t.pairing = s.pairing)
    (quiet : NoPairing s slot) : NoPairing t slot := by
  obtain ⟨windows, sources⟩ := Prod.ext_iff.mp same
  intro k hk
  have source : (t.slot k).source = (s.slot k).source := congrFun sources k
  exact (quiet k hk).imp (source.trans_ne ·) windows.trans

variable (s)

theorem handChanged_pairing (slot : Option SlotNo) : (handChanged slot s).pairing = s.pairing := by
  have disarmed (k : SlotNo) : (setWish k false s).pairing = s.pairing := by
    refine Prod.ext rfl (funext fun j => ?_)
    simp only [State.pairing, setWish, slot_setSlot]
    split
    · rename_i hj
      rw [hj]
    · rfl
  unfold handChanged
  split
  · split
    · exact disarmed _
    · rfl
  · rfl

variable (x : CrossNo)

theorem completePassage_pairing (e : ZoneEntry) (rest : List ZoneEntry) (outcome : PassageOutcome)
    (exit : Option (Time × ExitSensor)) : (completePassage x e rest outcome exit s).pairing = s.pairing := by
  rw [completePassage_eq]
  refine (pairing_of_bindings (emit_bindings _ _)).trans ?_
  dsimp only
  split
  · exact handChanged_pairing _ e.slot
  · rfl

theorem removeEntry_pairing (e : ZoneEntry) (rest : List ZoneEntry) (outcome : PassageOutcome)
    (exit : Option (Time × ExitSensor)) : (removeEntry x e rest outcome exit s).pairing = s.pairing := by
  have passed := completePassage_pairing s x e rest outcome exit
  unfold removeEntry
  split
  · exact (pairing_of_bindings (emptiedQueue_bindings _ x)).trans passed
  · exact passed

theorem displaceSlot_pairing (slot : Option SlotNo) : (displaceSlot x slot s).pairing = s.pairing := by
  unfold displaceSlot
  split
  · rfl
  · dsimp only
    split
    · exact completePassage_pairing ..
    · rfl

theorem displaceHead_pairing : (displaceHead x s).pairing = s.pairing := by
  unfold displaceHead
  split
  · split
    · exact completePassage_pairing ..
    · rfl
  · rfl

theorem settle_pairing (held : Bool) : (settle x held s).pairing = s.pairing := by
  unfold settle
  split
  · exact pairing_of_bindings (emptiedQueue_bindings s x)
  · rfl

theorem enter_pairing (slot : Option SlotNo) : (enter x slot s).pairing = s.pairing := by
  unfold enter
  split
  · exact pairing_of_bindings (appendEntry_bindings s x slot)
  · rfl

theorem takeApproach_pairing (slot : Option SlotNo) : (takeApproach x slot s).pairing = s.pairing := by
  rw [takeApproach_eq, enter_pairing, settle_pairing, displaceHead_pairing, displaceSlot_pairing]

theorem takeExit_pairing (sensor : ExitSensor) (slot : Option SlotNo) :
    (takeExit x sensor slot s).pairing = s.pairing := by
  simp only [takeExit]
  split
  · split
    · exact removeEntry_pairing ..
    · rfl
  · split
    · exact removeEntry_pairing ..
    · rfl

/-- The Crossover Controller leaves the windows and the sources, so a sighting is eligible after it as before (R43). -/
theorem crossSighting_pairing (sensor : Sensor) (slot : Option SlotNo) :
    (crossSighting x sensor slot s).pairing = s.pairing := by
  unfold crossSighting
  split
  · split
    · exact takeApproach_pairing s x slot
    · exact takeExit_pairing s x _ slot
  · rfl

/-! ### One sighting taken by both units (R64, R65) -/

variable {s}

theorem noPairing_or_eligible (s : State) (slot : Option SlotNo) : NoPairing s slot ∨
    ∃ k wd rest, slot = some k ∧ (s.slot k).source = .none ∧ s.windows = wd :: rest := by
  cases slot with
  | none => exact .inl nofun
  | some k =>
    cases hw : s.windows with
    | nil => exact .inl fun _ _ => .inr hw
    | cons wd rest =>
      by_cases free : (s.slot k).source = .none
      · exact .inr ⟨k, wd, rest, rfl, free, rfl⟩
      · exact .inl fun j hj => .inl (Option.some.inj hj ▸ free)

/-- An eligible sighting binds the head window's entry, whatever is handed on (R44). -/
theorem pairSighting_boundBySighting {k : SlotNo} {wd : Window} {rest : List Window}
    (free : (s.slot k).source = .none) (head : s.windows = wd :: rest) :
    ∃ outputs, pairSighting (some k) s = emit outputs (boundBySighting wd.entry k s) := by
  have willPair : eligible k s = true := by simp [eligible, free, head]
  simp only [pairSighting, head, if_pos willPair, ← boundAnew_sourceless free, closeWindow_eq, if_true, List.append_nil,
    echoTo_eq, queueNotice_eq, emit_emit]
  exact ⟨_, rfl⟩

/-- An eligible sighting of a disarmed slot: in either order the crossover table and the section command queue that the
crossover makes of it stand beside the binding (R65). -/
theorem eligible_eitherOrder (x : CrossNo) (sensor : Sensor) {k : SlotNo} {wd : Window} {rest : List Window}
    (free : (s.slot k).source = .none) (head : s.windows = wd :: rest) (disarmed : (s.slot k).wish = false) :
    ∃ (both : State) (first second : List Output),
      crossSighting x sensor (some k) (pairSighting (some k) s) = emit first both ∧
      pairSighting (some k) (crossSighting x sensor (some k) s) = emit second both := by
  obtain ⟨passage, crossovers, commands, taken⟩ := crossSighting_takenAlike (k := k) s x sensor
  refine ⟨(boundBySighting wd.entry k s).withCrossings crossovers commands, ?_⟩
  obtain ⟨binding, bound⟩ := pairSighting_boundBySighting free head
  have crossed : crossSighting x sensor (some k) s = emit passage (s.withCrossings crossovers commands) :=
    taken s disarmed
  obtain ⟨binding', bound'⟩ := pairSighting_boundBySighting
    (s := emit passage (s.withCrossings crossovers commands)) free head
  refine ⟨binding ++ passage, passage ++ binding', ?pairingFirst, ?crossoverFirst⟩
  case pairingFirst =>
    have seen : (emit binding (boundBySighting wd.entry k s)).asAt s = emit binding (boundBySighting wd.entry k s) := by
      rw [boundBySighting_frame free]
      rfl
    have unarmed : ((emit binding (boundBySighting wd.entry k s)).slot k).wish = false := by
      rw [emit_slot, boundBySighting_slot_self]
      rfl
    rw [bound, ← seen, taken _ unarmed, seen, ← emit_emit]
    rfl
  case crossoverFirst =>
    rw [crossed, bound', emit_boundBySighting, boundBySighting_withCrossings free, emit_emit]

/-- A sighting handed on is taken by both units, in one order or the other (R64, R65; log entry 5). -/
theorem handSighting_eitherOrder (x : CrossNo) (sensor : Sensor) (slot : Option SlotNo) (s : State) :
    ∃ draws,
      handSighting x sensor slot s = crossSighting x sensor slot (pairSighting slot { s with freeDraws := draws }) ∨
      handSighting x sensor slot s =
        pairSighting slot (crossSighting x sensor slot { s with freeDraws := draws }) := by
  unfold handSighting
  split
  · split
    · exact ⟨s.freeDraws + 1, .inl rfl⟩
    · exact ⟨s.freeDraws + 1, .inr rfl⟩
  · exact ⟨s.freeDraws, .inl rfl⟩

/-- Settles O13: a sighting that does nothing to pairing does nothing to it after the crossover either, and an eligible
one is of a disarmed slot. -/
theorem eitherTakerOfASightingFirst : Obligations.EitherTakerOfASightingFirst := by
  unfold Obligations.EitherTakerOfASightingFirst
  refine ⟨fun s x sensor slot disarmed => ?commute, fun s x b p w sensor slot beacons good measures hb => ?taken⟩
  case commute =>
    rcases noPairing_or_eligible s slot with quiet | ⟨k, wd, rest, rfl, free, head⟩
    · have after := noPairing_of_pairing (crossSighting_pairing s x sensor slot) quiet
      rw [pairSighting_of_noPairing quiet, pairSighting_of_noPairing after]
    · obtain ⟨both, first, second, pairingFirst, crossoverFirst⟩ :=
        eligible_eitherOrder x sensor free head (disarmed k free)
      rw [pairingFirst, crossoverFirst]
      rfl
  case taken =>
    obtain ⟨draws, order⟩ := handSighting_eitherOrder x sensor slot s.reportTaken
    refine ⟨draws, ?_⟩
    rw [sighting_handed hb good beacons measures]
    exact order.imp (congrArg _) (congrArg _)

end Sys2Proof.Machine
end

section
/-! The head frame and the code frame of a round (R59, R128, R129, R133). -/

namespace Sys2Proof.Machine

variable {s : State}

/-- The head frame in its place, after a reset or after the code frame, opens the next round (R126, R128, R129). -/
theorem headFrame_forms (place : s.railFresh = true ∨ s.framePos = 11) :
    exec .headFrame s = .next { s with
      roundNumber := nextRound s, framePos := 0, railFresh := false
      railLine := some (.head (nextRound s) s.track s.cap) } := by
  have formed : (s.railFresh || s.framePos.val == 11) = true := by
    rcases place with fresh | last
    · simp [fresh]
    · simp [last]
  exact congrArg Host.Outcome.next (if_pos formed)

theorem nextRound_fresh (fresh : s.railFresh = true) : nextRound s = 0 := if_pos fresh

/-- The round number advances by one and wraps after 255 (R128). -/
theorem nextRound_toNat (running : s.railFresh = false) :
    (nextRound s).toNat = (s.roundNumber.toNat + 1) % 256 := by
  simp [nextRound, running, BitVec.toNat_add]

theorem frameFormedAt_of_framePos {p : Fin 12} (running : s.railFresh = false) (place : s.framePos = p) :
    frameFormedAt s p.val = true := by
  simp [frameFormedAt, running, place]

/-- The code frame in its place carries the code of the round's slot (R59, R126, R133). -/
theorem codeFrame_forms (running : s.railFresh = false) (place : s.framePos = 10) :
    exec .codeFrame s = .next { s with
      framePos := 11, railFresh := false, railLine := some (.code (s.code (codeSlot s.roundNumber))) } :=
  congrArg Host.Outcome.next (if_pos (frameFormedAt_of_framePos (p := 10) running place))

/-- Settles O53: each frame in its place, with the round and the slot that its number names. -/
theorem headAndCodeFramesAreFormed : Obligations.HeadAndCodeFramesAreFormed := by
  unfold Obligations.HeadAndCodeFramesAreFormed
  refine fun s => ⟨fun fresh => ?first, fun running place => ?next, fun running place k hk => ?code⟩
  case first => rw [headFrame_forms (.inl fresh), nextRound_fresh fresh]
  case next => exact ⟨nextRound s, nextRound_toNat running, headFrame_forms (.inr place)⟩
  case code =>
    have slot : codeSlot s.roundNumber = k := Fin.ext hk.symm
    rw [codeFrame_forms running place, slot, ← running]

end Sys2Proof.Machine
end

section
/-! The invariant of the crossovers taken record by record: how each record fits its state, the section command queue and
the track (Table 5-2, R70, R91, R101, R102, R137). -/

namespace Sys2Proof.Machine

/-! ### The columns of Table 5-2 by state -/

/-- The row of Table 5-2 for a state, as record `c` is to meet it. -/
def Crossover.MeetsRow (c : Crossover) : CrossState → Prop
  | .disabled => c.zone = [] ∧ c.status = .none ∧ c.config.enabled = false
  | .dark => c.zone = [] ∧ c.status = .none
  | .opened => c.zone = [] ∧ c.status = .none ∧ c.config.enabled = true
  | .passing | .diverted => c.zone ≠ [] ∧ c.status = .none ∧ c.config.enabled = true
  | .throwing => c.status.outstanding = some .throwing ∧ c.config.enabled = true
  | .holding => c.zone = [] ∧ c.status = .none ∧ c.config.enabled = true ∧ c.guardRunning = true
  | .returning =>
    (c.status.outstanding = some .returning ∨ c.status.owedPulse.isSome = true) ∧ c.config.enabled = true
  | .fault => c.status = .none ∧ (c.config.enabled = false → c.zone ≠ [])

/-- The columns ask of a record the row of its own state. -/
theorem stateColumns_iff {c : Crossover} : StateColumns c ↔ c.MeetsRow c.state := by
  unfold StateColumns
  cases c.state <;> simp [Crossover.MeetsRow]

/-- A record with a command, queued, sent or OWED, is THROWING or RETURNING and enabled (Table 5-2). -/
theorem row_of_commanded {c : Crossover} (row : c.MeetsRow c.state) (commanded : c.status ≠ .none) :
    c.config.enabled = true ∧
    ((c.state = .throwing ∧ c.status.outstanding = some .throwing) ∨
      (c.state = .returning ∧ (c.status.outstanding = some .returning ∨ c.status.owedPulse.isSome = true))) := by
  cases h : c.state with
  | throwing => rw [h] at row; exact ⟨row.2, .inl ⟨rfl, row.1⟩⟩
  | returning => rw [h] at row; exact ⟨row.2, .inr ⟨rfl, row.1⟩⟩
  | _ => simp [h, Crossover.MeetsRow, commanded] at row

/-! ### One record beside the command queue and the track -/

/-- The command status of crossover `x` agrees with the section command queue: QUEUED exactly for its command in the
queue, and OWED only while the queue, with `room` commands taken out of it, is full (R91, R101, R102). -/
structure StatusFits (commands : List SectionCommand) (room : Nat) (x : CrossNo) (status : CommandStatus) : Prop where
  queued : ∀ d ∈ commands, d.crossover = x → status = .queued d.kind
  stands : status.isQueued = true → ∃ d ∈ commands, d.crossover = x
  owed : status.owedPulse.isSome = true → commands.length + room = 8

/-- Record `c` of crossover `x` fits Table 5-2, the bounds of its zone, the command queue and the track. -/
structure Fits (commands : List SectionCommand) (room : Nat) (track : TrackState) (x : CrossNo) (c : Crossover) :
    Prop where
  row : c.MeetsRow c.state
  zone : ZoneOk c.zone
  status : StatusFits commands room x c.status
  cut : track = .cutoff → c.state = .disabled ∨ c.state = .dark
  dark : c.state = .dark → track = .cutoff

/-- The section command queue and the fault line, whatever the records (R101, R138). -/
structure QueueOk (s : State) : Prop where
  length : s.commands.length ≤ 8
  nodup : (s.commands.map (·.crossover)).Nodup
  line : s.faultLine = true → s.track = .cutoff

/-- The record of crossover `x` fits the part. -/
abbrev FitsAt (s : State) (x : CrossNo) : Prop := Fits s.commands 0 s.track x (s.cross x)

/-- The invariant holds but for the record of crossover `x`. -/
structure OthersFit (x : CrossNo) (s : State) : Prop where
  queue : QueueOk s
  fits : ∀ y, y ≠ x → FitsAt s y

theorem crossInv_iff {s : State} : CrossInv s ↔ QueueOk s ∧ ∀ x, FitsAt s x := by
  refine ⟨fun ⟨records, ⟨length, nodup, queued, stands, owed⟩, cut, dark, line⟩ =>
      ⟨⟨length, nodup, line⟩, fun x => ?_⟩,
    fun ⟨queue, fits⟩ => ⟨fun x => ⟨stateColumns_iff.mpr (fits x).row, (fits x).zone⟩,
      ⟨queue.length, queue.nodup, fun d hd => (fits d.crossover).status.queued d hd rfl,
        fun x => (fits x).status.stands, fun x => (fits x).status.owed⟩,
      fun h x => (fits x).cut h, fun x => (fits x).dark, queue.line⟩⟩
  obtain ⟨columns, zone⟩ := records x
  exact ⟨stateColumns_iff.mp columns, zone, ⟨fun d hd hx => hx ▸ queued d hd, stands x, owed x⟩,
    fun h => cut h x, dark x⟩

/-- What the invariant of the crossovers reads of the part. -/
def State.crossings (s : State) : Vector Crossover 16 × List SectionCommand × TrackState × Bool :=
  (s.crossovers, s.commands, s.track, s.faultLine)

variable {s t : State} {x y : CrossNo} {c d : Crossover} {commands : List SectionCommand} {room : Nat}
  {track : TrackState}

theorem crossings_iff : t.crossings = s.crossings ↔
    t.crossovers = s.crossovers ∧ t.commands = s.commands ∧ t.track = s.track ∧ t.faultLine = s.faultLine := by
  simp [State.crossings]

theorem cross_of_crossings (same : t.crossings = s.crossings) (x : CrossNo) : t.cross x = s.cross x := by
  obtain ⟨crossovers, -⟩ := crossings_iff.mp same
  rw [State.cross, State.cross, crossovers]

theorem queueOk_of_crossings (same : t.crossings = s.crossings) (ok : QueueOk s) : QueueOk t := by
  obtain ⟨-, commands, track, line⟩ := crossings_iff.mp same
  exact ⟨commands ▸ ok.length, commands ▸ ok.nodup, line ▸ track ▸ ok.line⟩

theorem fitsAt_of_crossings (same : t.crossings = s.crossings) (fits : FitsAt s x) : FitsAt t x := by
  obtain ⟨-, commands, track, -⟩ := crossings_iff.mp same
  rw [FitsAt, commands, track, cross_of_crossings same]
  exact fits

theorem othersFit_of_crossings (same : t.crossings = s.crossings) (others : OthersFit x s) : OthersFit x t :=
  ⟨queueOk_of_crossings same others.queue, fun y hy => fitsAt_of_crossings same (others.fits y hy)⟩

theorem crossInv_of_crossings (same : t.crossings = s.crossings) (inv : CrossInv s) : CrossInv t := by
  obtain ⟨queue, fits⟩ := crossInv_iff.mp inv
  exact crossInv_iff.mpr ⟨queueOk_of_crossings same queue, fun x => fitsAt_of_crossings same (fits x)⟩

theorem fitsAt_of_crossInv (inv : CrossInv s) (x : CrossNo) : FitsAt s x := (crossInv_iff.mp inv).2 x

theorem othersFit_of_crossInv (inv : CrossInv s) (x : CrossNo) : OthersFit x s := by
  obtain ⟨queue, fits⟩ := crossInv_iff.mp inv
  exact ⟨queue, fun y _ => fits y⟩

theorem crossInv_of_othersFit (others : OthersFit x s) (fits : FitsAt s x) : CrossInv s := by
  refine crossInv_iff.mpr ⟨others.queue, fun y => ?_⟩
  by_cases hy : y = x
  · exact hy ▸ fits
  · exact others.fits y hy

/-! ### One record replaced -/

theorem fitsAt_setCross_of_ne (hy : y ≠ x) (c : Crossover) (fits : FitsAt s y) : FitsAt (s.setCross x c) y := by
  rw [FitsAt, cross_setCross, if_neg hy.symm]
  exact fits

theorem othersFit_setCross (others : OthersFit x s) (c : Crossover) : OthersFit x (s.setCross x c) :=
  ⟨⟨others.queue.length, others.queue.nodup, others.queue.line⟩,
    fun y hy => fitsAt_setCross_of_ne hy c (others.fits y hy)⟩

theorem crossInv_setCross (others : OthersFit x s) (fits : Fits s.commands 0 s.track x c) :
    CrossInv (s.setCross x c) := by
  refine crossInv_of_othersFit (othersFit_setCross others c) ?_
  rw [FitsAt, cross_setCross_self]
  exact fits

/-! ### Statuses -/

/-- The queue holds no command of crossover `x`. -/
def Idle (commands : List SectionCommand) (x : CrossNo) : Prop := ∀ d ∈ commands, d.crossover ≠ x

/-- A crossover whose status is not QUEUED has no command in the queue. -/
theorem StatusFits.idle {status : CommandStatus} (fits : StatusFits commands room x status)
    (unqueued : ∀ kind, status ≠ .queued kind) : Idle commands x :=
  fun d hd hx => unqueued d.kind (fits.queued d hd hx)

/-- With no command in the queue a status that is neither QUEUED nor OWED fits. -/
theorem Idle.fits {status : CommandStatus} (idle : Idle commands x) (unqueued : status.isQueued = false)
    (unowed : status.owedPulse = none) : StatusFits commands room x status :=
  ⟨fun d hd hx => absurd hx (idle d hd), fun h => by simp [unqueued] at h, fun h => by simp [unowed] at h⟩

theorem Idle.fits_none (idle : Idle commands x) : StatusFits commands room x .none := idle.fits rfl rfl

/-- A crossover that has a row with status NONE has no command in the queue. -/
theorem Fits.idle (fits : Fits commands room track x c) (none : c.status = .none) : Idle commands x :=
  fits.status.idle fun kind => by simp [none]

/-! ### Zones -/

theorem zoneOk_nil : ZoneOk [] := ⟨Nat.zero_le 4, List.nodup_nil, nofun⟩

theorem zoneOk_sublist {zone rest : List ZoneEntry} (sub : rest.Sublist zone) (ok : ZoneOk zone) : ZoneOk rest := by
  obtain ⟨length, nodup, wished⟩ := ok
  exact ⟨sub.length_le.trans length, nodup.sublist (sub.filterMap _), fun e he => wished e (sub.subset he)⟩

/-- With room and no entry of its slot, a new entry may stand at the tail (R70, R71). -/
theorem zoneOk_append {zone : List ZoneEntry} {e : ZoneEntry} (ok : ZoneOk zone) (room : zone.length ≤ 3)
    (absent : NotInZone zone e.slot) (wished : e.wished = (e.decision != .none)) : ZoneOk (zone ++ [e]) := by
  obtain ⟨-, nodup, decided⟩ := ok
  refine ⟨by simp; omega, ?_, fun a ha => ?_⟩
  · cases hs : e.slot with
    | none => simpa [hs] using nodup
    | some k =>
      rw [List.filterMap_append]
      refine List.nodup_append.mpr ⟨nodup, by simp [hs], fun j hj i hi => ?_⟩
      obtain ⟨a, ha, haj⟩ := List.mem_filterMap.mp hj
      simp only [List.filterMap_cons, List.filterMap_nil, hs, List.mem_singleton] at hi
      rintro rfl
      exact absent k hs a ha (hi ▸ haj)
  · rcases List.mem_append.mp ha with h | h
    · exact decided a h
    · rw [List.mem_singleton.mp h]; exact wished

end Sys2Proof.Machine
end

section
/-! RETURNs decided, room given and FAULTs entered keep the invariant of the crossovers (R96, R99, R101, R102). -/

namespace Sys2Proof.Machine

variable {s : State} {x y : CrossNo} {c : Crossover}

/-! ### A command queued -/

/-- A command of another crossover is queued with room: no RETURN was OWED (R102). -/
theorem fits_append_of_ne {commands : List SectionCommand} {room : Nat} {track : TrackState} {d : SectionCommand}
    (hy : y ≠ d.crossover) (short : commands.length + room = 8 → room = 1)
    (fits : Fits commands room track y c) : Fits (commands ++ [d]) 0 track y c := by
  refine ⟨fits.row, fits.zone, ⟨fun a ha hx => ?_, fun h => ?_, fun h => ?_⟩, fits.cut, fits.dark⟩
  · rcases List.mem_append.mp ha with ha | ha
    · exact fits.status.queued a ha hx
    · rw [List.mem_singleton.mp ha] at hx; exact absurd hx.symm hy
  · obtain ⟨a, ha, hx⟩ := fits.status.stands h
    exact ⟨a, List.mem_append_left _ ha, hx⟩
  · have full := fits.status.owed h
    have := short full
    simp; omega

/-- A command queued for a crossover that had none stands for its QUEUED status (R101). -/
theorem Idle.fits_append {commands : List SectionCommand} {d : SectionCommand} (idle : Idle commands d.crossover) :
    StatusFits (commands ++ [d]) 0 d.crossover (.queued d.kind) := by
  refine ⟨fun a ha hx => ?_, fun _ => ⟨d, by simp⟩, fun h => by simp [CommandStatus.owedPulse] at h⟩
  rcases List.mem_append.mp ha with ha | ha
  · exact absurd hx (idle a ha)
  · rw [List.mem_singleton.mp ha]

theorem queueOk_pushCommand {d : SectionCommand} (ok : QueueOk s) (room : s.commands.length < 8)
    (idle : Idle s.commands d.crossover) : QueueOk (s.pushCommand d) := by
  refine ⟨by simp [pushCommand_commands]; omega, ?_, ok.line⟩
  rw [pushCommand_commands, List.map_append]
  refine List.nodup_append.mpr ⟨ok.nodup, List.nodup_singleton _, fun a ha b hb => ?_⟩
  obtain ⟨e, he, rfl⟩ := List.mem_map.mp ha
  exact (List.mem_singleton.mp hb) ▸ idle e he

/-- A command queued with room for a crossover that had none. -/
theorem othersFit_pushCommand {d : SectionCommand} (others : OthersFit d.crossover s) (room : s.commands.length < 8)
    (idle : Idle s.commands d.crossover) : OthersFit d.crossover (s.pushCommand d) :=
  ⟨queueOk_pushCommand others.queue room idle,
    fun y hy => fits_append_of_ne hy (by omega) (others.fits y hy)⟩

/-! ### RETURNs (R96) -/

/-- The record with its RETURN decided fits, QUEUED in the queue or OWED beside a full one. -/
theorem fits_returning {commands : List SectionCommand} {track : TrackState} {status : CommandStatus}
    (zone : ZoneOk c.zone) (enabled : c.config.enabled = true) (powered : track ≠ .cutoff)
    (decided : status.outstanding = some .returning ∨ status.owedPulse.isSome = true)
    (fits : StatusFits commands 0 x status) :
    Fits commands 0 track x { c with state := .returning, status := status } :=
  ⟨⟨decided, enabled⟩, zone, fits, fun h => absurd h powered, nofun⟩

theorem decideReturn_queueOk (ok : QueueOk s) (idle : Idle s.commands x) : QueueOk (decideReturn x s) := by
  rcases Nat.lt_or_ge s.commands.length 8 with room | full
  · rw [decideReturn_room s x room]
    have pushed := queueOk_pushCommand (d := ⟨x, .returning, (s.cross x).config.pulse⟩) ok room idle
    exact ⟨pushed.length, pushed.nodup, pushed.line⟩
  · rw [decideReturn_full s x full]
    exact ⟨ok.length, ok.nodup, ok.line⟩

/-- A RETURN of another crossover leaves a record fitting. -/
theorem decideReturn_fitsAt_of_ne (hy : y ≠ x) (fits : FitsAt s y) : FitsAt (decideReturn x s) y := by
  rcases Nat.lt_or_ge s.commands.length 8 with room | full
  · rw [decideReturn_room s x room]
    exact fitsAt_setCross_of_ne (s := s.pushCommand ⟨x, .returning, _⟩) hy _
      (fits_append_of_ne (d := ⟨x, .returning, _⟩) hy (by omega) fits)
  · rw [decideReturn_full s x full]
    exact fitsAt_setCross_of_ne hy _ fits

/-- A RETURN decided for a crossover without a command makes its record fit, whatever it was otherwise. -/
theorem decideReturn_fitsAt (queue : QueueOk s) (idle : Idle s.commands x) (zone : ZoneOk (s.cross x).zone)
    (enabled : (s.cross x).config.enabled = true) (powered : s.track ≠ .cutoff) : FitsAt (decideReturn x s) x := by
  rcases Nat.lt_or_ge s.commands.length 8 with room | full
  · rw [decideReturn_room s x room, FitsAt, cross_setCross_self]
    exact fits_returning zone enabled powered (.inl rfl) (Idle.fits_append (d := ⟨x, .returning, _⟩) idle)
  · rw [decideReturn_full s x full, FitsAt, cross_setCross_self]
    exact fits_returning zone enabled powered (.inr rfl)
      ⟨fun d hd hx => absurd hx (idle d hd), nofun, fun _ => Nat.le_antisymm queue.length full⟩

theorem decideReturn_crossInv (others : OthersFit x s) (idle : Idle s.commands x) (zone : ZoneOk (s.cross x).zone)
    (enabled : (s.cross x).config.enabled = true) (powered : s.track ≠ .cutoff) : CrossInv (decideReturn x s) :=
  crossInv_of_othersFit
    ⟨decideReturn_queueOk others.queue idle, fun y hy => decideReturn_fitsAt_of_ne hy (others.fits y hy)⟩
    (decideReturn_fitsAt others.queue idle zone enabled powered)

/-! ### Room (R102) -/

/-- The invariant with `room` commands taken out of a queue that may have been full. -/
structure Roomy (s : State) (room : Nat) : Prop where
  queue : QueueOk s
  fits : ∀ x, Fits s.commands room s.track x (s.cross x)

/-- The room of one command is given to the lowest OWED RETURN, and with none OWED the queue need not be full. -/
theorem serveOwed_crossInv (roomy : Roomy s 1) : CrossInv (serveOwed s) := by
  obtain ⟨queue, fits⟩ := roomy
  unfold serveOwed
  split
  · rename_i unowed
    refine crossInv_iff.mpr ⟨queue, fun x => ?_⟩
    have nowhere : (s.cross x).status.owedPulse.isSome = false := find_finRange_none.mp unowed x
    exact ⟨(fits x).row, (fits x).zone,
      ⟨(fits x).status.queued, (fits x).status.stands, fun h => by simp [nowhere] at h⟩, (fits x).cut, (fits x).dark⟩
  · rename_i x lowest
    split
    · rename_i unowed
      have owed := find_finRange_test lowest
      simp [unowed] at owed
    · rename_i pulse owed
      have own := fits x
      have status := owedPulse_eq_some.mp owed
      have idle : Idle s.commands x := own.status.idle fun kind => by simp [status]
      obtain ⟨enabled, ⟨-, out⟩ | ⟨returning, -⟩⟩ := row_of_commanded own.row (by simp [status])
      · simp [status, CommandStatus.outstanding] at out
      have length := own.status.owed (by simp [owed])
      have others : OthersFit x (s.pushCommand ⟨x, .returning, pulse⟩) :=
        ⟨queueOk_pushCommand queue (by omega) idle, fun y hy => fits_append_of_ne hy (by omega) (fits y)⟩
      refine crossInv_setCross others ⟨?_, own.zone, Idle.fits_append (d := ⟨x, .returning, pulse⟩) idle, own.cut,
        own.dark⟩
      change Crossover.MeetsRow _ (s.cross x).state
      rw [returning]
      exact ⟨.inl rfl, enabled⟩

/-! ### Commands that leave the queue (R99, R101) -/

/-- Taking the one command of crossover `x` out of the queue leaves the room of one. -/
theorem length_filter_command {commands : List SectionCommand} (nodup : (commands.map (·.crossover)).Nodup)
    (stands : ∃ d ∈ commands, d.crossover = x) :
    (commands.filter fun d => d.crossover != x).length + 1 = commands.length := by
  obtain ⟨d, hd, rfl⟩ := stands
  have mem : d.crossover ∈ commands.map (·.crossover) := List.mem_map_of_mem hd
  have erased := List.length_erase_of_mem mem
  rw [nodup.erase_eq_filter, List.filter_map, List.length_map, List.length_map] at erased
  have pos := List.length_pos_of_mem hd
  have : (commands.filter fun a => a.crossover != d.crossover).length = commands.length - 1 := erased
  omega

/-- Of commands in order a part with one command less: those of crossover `x` are gone, the others stand. -/
theorem roomy_taken {list : List SectionCommand} (inv : CrossInv s) (sub : list.Sublist s.commands)
    (one : list.length + 1 = s.commands.length) (kept : ∀ d ∈ s.commands, d.crossover ≠ x → d ∈ list)
    (own : Fits list 1 s.track x c) : Roomy ({ s with commands := list }.setCross x c) 1 := by
  obtain ⟨queue, fits⟩ := crossInv_iff.mp inv
  refine ⟨⟨sub.length_le.trans queue.length, queue.nodup.sublist (sub.map _), queue.line⟩, fun y => ?_⟩
  rw [cross_setCross]
  split
  · rename_i hy
    exact hy ▸ own
  · rename_i hy
    have other := fits y
    refine ⟨other.row, other.zone, ⟨fun d hd => other.status.queued d (sub.subset hd), fun h => ?_, fun h => ?_⟩,
      other.cut, other.dark⟩
    · obtain ⟨d, hd, rfl⟩ := other.status.stands h
      exact ⟨d, kept d hd (Ne.symm hy), rfl⟩
    · have := other.status.owed h
      change list.length + 1 = 8
      omega

/-! ### FAULT (R99) -/

@[simp] theorem queueNotice_crossings (body : NoticeBody) : (queueNotice body s).crossings = s.crossings := rfl

theorem serveOwed_queueNotice (body : NoticeBody) :
    (serveOwed (queueNotice body s)).crossings = (serveOwed s).crossings := by
  have same : lowestOwed (queueNotice body s) = lowestOwed s := rfl
  unfold serveOwed
  rw [same]
  cases h : lowestOwed s with
  | none => rfl
  | some y =>
    have cross : (queueNotice body s).cross y = s.cross y := rfl
    simp only [cross]
    split <;> rfl

/-- FAULT of an enabled crossover on a track that is not cut off. -/
theorem enterFault_crossInv (cause : FaultCause) (inv : CrossInv s) (enabled : (s.cross x).config.enabled = true)
    (powered : s.track ≠ .cutoff) : CrossInv (enterFault x cause s) := by
  have own := fitsAt_of_crossInv inv x
  have faulted {commands : List SectionCommand} {room : Nat} (idle : Idle commands x) :
      Fits commands room s.track x { s.cross x with state := .fault, status := .none } :=
    ⟨⟨rfl, fun disabled => absurd (enabled.symm.trans disabled) nofun⟩, own.zone, idle.fits_none,
      fun h => absurd h powered, nofun⟩
  simp only [enterFault]
  split
  · rename_i queued
    refine crossInv_of_crossings (serveOwed_queueNotice _) (serveOwed_crossInv ?_)
    refine roomy_taken inv List.filter_sublist
      (length_filter_command (crossInv_iff.mp inv).1.nodup (own.status.stands queued))
      (fun d hd hx => List.mem_filter.mpr ⟨hd, by simpa using hx⟩) (faulted fun d hd => ?_)
    simpa using (List.mem_filter.mp hd).2
  · rename_i unqueued
    exact crossInv_of_crossings (queueNotice_crossings _) (crossInv_setCross (othersFit_of_crossInv inv x)
      (faulted (own.status.idle fun kind h => unqueued (by simp [h, CommandStatus.isQueued]))))

/-! ### The gate frame (R101, R131) -/

theorem putFrame_crossings (p : Fin 12) (f : RailFrame) : (putFrame p f s).crossings = s.crossings := rfl

/-- The head command leaves the queue and is SENT, and its room is given. -/
theorem formGate_crossInv (p : Fin 12) (inv : CrossInv s) : CrossInv (formGate p s) := by
  unfold formGate
  split
  · exact crossInv_of_crossings (putFrame_crossings p _) inv
  · rename_i d rest hcommands
    refine crossInv_of_crossings (putFrame_crossings p _) (serveOwed_crossInv ?_)
    have own := fitsAt_of_crossInv inv d.crossover
    have queued : (s.cross d.crossover).status = .queued d.kind :=
      own.status.queued d (hcommands ▸ List.mem_cons_self) rfl
    have nodup := (crossInv_iff.mp inv).1.nodup
    rw [hcommands, List.map_cons, List.nodup_cons] at nodup
    have idle : Idle rest d.crossover := fun a ha hx => nodup.1 (hx ▸ List.mem_map_of_mem ha)
    refine roomy_taken inv (hcommands ▸ List.sublist_cons_self d rest) (by simp [hcommands]) (fun a ha hx => ?_)
      ⟨?_, own.zone, idle.fits rfl rfl, own.cut, own.dark⟩
    · rw [hcommands] at ha
      exact (List.mem_cons.mp ha).resolve_left (by rintro rfl; exact hx rfl)
    · change Crossover.MeetsRow _ (s.cross d.crossover).state
      obtain ⟨enabled, ⟨state, out⟩ | ⟨state, out⟩⟩ := row_of_commanded own.row (by simp [queued])
      · rw [state]
        exact ⟨by rwa [queued] at out, enabled⟩
      · rw [state]
        exact ⟨by rwa [queued] at out, enabled⟩

end Sys2Proof.Machine
end

section
/-! Configurations, the emptied-queue rule, removals, approaches and diverter reports keep the invariant of the
crossovers (R72 to R107). -/

namespace Sys2Proof.Machine

variable {s t : State} {x : CrossNo} {c d : Crossover} {commands : List SectionCommand} {track : TrackState}

/-! ### What a record fits by -/

/-- A record fits by its state, zone, status and enable, and HOLDING by its guard. -/
theorem Fits.congr (fits : Fits commands 0 track x c) (state : d.state = c.state) (zone : d.zone = c.zone)
    (status : d.status = c.status) (enabled : d.config.enabled = c.config.enabled)
    (guard : c.state = .holding → d.guardRunning = true) : Fits commands 0 track x d := by
  refine ⟨?_, zone ▸ fits.zone, status ▸ fits.status, state ▸ fits.cut, state ▸ fits.dark⟩
  have row := fits.row
  rw [state]
  cases h : c.state with
  | holding =>
    rw [h] at row
    obtain ⟨hz, hs, he, -⟩ := row
    exact ⟨zone.trans hz, status.trans hs, enabled.trans he, guard h⟩
  | _ => simpa only [h, Crossover.MeetsRow, zone, status, enabled] using row

/-- A record with no car and no command fits its state by the row alone. -/
theorem fits_empty (idle : Idle commands x) (zone : c.zone = []) (status : c.status = .none)
    (row : c.MeetsRow c.state) (cut : track = .cutoff → c.state = .disabled ∨ c.state = .dark)
    (dark : c.state = .dark → track = .cutoff) : Fits commands 0 track x c :=
  ⟨row, zone ▸ zoneOk_nil, status ▸ idle.fits_none, cut, dark⟩

/-- Out of CUTOFF no crossover is DARK, and an active one is proof of that (R137). -/
theorem Fits.powered (fits : Fits commands 0 track x c) (enabled : c.state ≠ .disabled) (lit : c.state ≠ .dark) :
    track ≠ .cutoff := fun h => (fits.cut h).elim enabled lit

/-! ### Becoming OPEN or HOLDING (R85, R93, R97, R105) -/

/-- An enabled crossover with no car and no command, on a track that is not cut off: the part of it that decides what
comes after. -/
structure Free (x : CrossNo) (s : State) : Prop where
  others : OthersFit x s
  idle : Idle s.commands x
  zone : (s.cross x).zone = []
  status : (s.cross x).status = .none
  enabled : (s.cross x).config.enabled = true
  powered : s.track ≠ .cutoff

theorem Free.decideReturn_crossInv (free : Free x s) : CrossInv (decideReturn x s) :=
  Machine.decideReturn_crossInv free.others free.idle (free.zone ▸ zoneOk_nil) free.enabled free.powered

theorem becomeOpen_crossInv (free : Free x s) : CrossInv (becomeOpen x s) := by
  cases hg : (s.cross x).staged with
  | none =>
    rw [becomeOpen_plain s x hg]
    exact crossInv_setCross free.others (fits_empty free.idle free.zone free.status
      ⟨free.zone, free.status, free.enabled⟩ (fun h => absurd h free.powered) nofun)
  | some g =>
    rw [becomeOpen_staged s x hg]
    refine crossInv_setCross free.others ?_
    cases he : g.enabled with
    | true =>
      exact fits_empty free.idle free.zone free.status ⟨free.zone, free.status, he⟩
        (fun h => absurd h free.powered) nofun
    | false => exact fits_empty free.idle free.zone free.status ⟨free.zone, free.status, he⟩ (fun _ => .inl rfl) nofun

theorem becomeHolding_crossInv (free : Free x s) : CrossInv (becomeHolding x s) := by
  rw [becomeHolding_eq]
  split
  · rename_i guard
    exact crossInv_setCross free.others (fits_empty free.idle free.zone free.status
      ⟨free.zone, free.status, free.enabled, guard⟩ (fun h => absurd h free.powered) nofun)
  · exact free.decideReturn_crossInv

/-! ### Entries removed (R81, R85) -/

/-- Record `d` is record `c` with zone entries removed, and the passages to show for it. -/
structure Shed (c d : Crossover) : Prop where
  eq : d = { c with zone := d.zone, last := d.last, lastNew := d.lastNew, previous := d.previous }
  sub : d.zone.Sublist c.zone

theorem shed_passed {rest : List ZoneEntry} (sub : rest.Sublist c.zone) (record : Passage) :
    Shed c (c.passed rest record) := ⟨rfl, sub⟩

/-- The removals leave state, status, configuration and guard. -/
theorem Shed.kept (shed : Shed c d) :
    d.state = c.state ∧ d.status = c.status ∧ d.config = c.config ∧ d.guardRunning = c.guardRunning := by
  rw [shed.eq]
  exact ⟨rfl, rfl, rfl, rfl⟩

theorem Shed.trans {e : Crossover} (first : Shed c d) (second : Shed d e) : Shed c e := by
  refine ⟨?_, second.sub.trans first.sub⟩
  rw [second.eq, first.eq]

/-- With entries left, or with none removed, the record fits as it did. -/
theorem Shed.fits (shed : Shed c d) (left : d.zone ≠ [] ∨ c.zone = []) (fits : Fits commands 0 track x c) :
    Fits commands 0 track x d := by
  obtain ⟨state, status, config, guard⟩ := shed.kept
  have empty : c.zone = [] → d.zone = [] := fun h => List.sublist_nil.mp (h ▸ shed.sub)
  have busy : c.zone ≠ [] → d.zone ≠ [] := fun h => left.resolve_right h
  refine ⟨?_, zoneOk_sublist shed.sub fits.zone, status ▸ fits.status, state ▸ fits.cut, state ▸ fits.dark⟩
  have row := fits.row
  rw [state]
  cases h : c.state with
  | disabled | opened | dark | holding =>
    simp only [h, Crossover.MeetsRow, status, config, guard] at row ⊢
    exact ⟨empty row.1, row.2⟩
  | passing | diverted =>
    simp only [h, Crossover.MeetsRow, status, config] at row ⊢
    exact ⟨busy row.1, row.2⟩
  | throwing | returning => simpa only [h, Crossover.MeetsRow, status, config] using row
  | fault =>
    simp only [h, Crossover.MeetsRow, status, config] at row ⊢
    exact ⟨row.1, fun disabled => busy (row.2 disabled)⟩

/-- The emptied-queue rule makes a record fit again that fitted before its last entry was removed. -/
theorem emptiedQueue_crossInv (others : OthersFit x s) (shed : Shed c (s.cross x)) (emptied : (s.cross x).zone = [])
    (fits : Fits s.commands 0 s.track x c) : CrossInv (emptiedQueue x s) := by
  obtain ⟨state, status, config, guard⟩ := shed.kept
  have row := fits.row
  have free (active : c.state = .passing ∨ c.state = .diverted) : Free x s := by
    have meets : c.status = .none ∧ c.config.enabled = true := by
      rcases active with h | h <;> rw [h] at row <;> exact row.2
    refine ⟨others, fits.idle meets.1, emptied, status.trans meets.1, config ▸ meets.2, ?_⟩
    rcases active with h | h <;> exact fits.powered (by simp [h]) (by simp [h])
  have same (meets : (s.cross x).MeetsRow c.state) : CrossInv s :=
    crossInv_of_othersFit others
      ⟨state ▸ meets, emptied ▸ zoneOk_nil, status ▸ fits.status, state ▸ fits.cut, state ▸ fits.dark⟩
  cases h : c.state with
  | passing => rw [emptiedQueue_passing s x (state.trans h)]; exact becomeOpen_crossInv (free (.inl h))
  | diverted => rw [emptiedQueue_diverted s x (state.trans h)]; exact becomeHolding_crossInv (free (.inr h))
  | throwing | returning =>
    rw [emptiedQueue_stays s x (by simp [state, h])]
    refine same ?_
    simpa only [h, Crossover.MeetsRow, status, config] using row
  | fault =>
    rw [emptiedQueue_fault s x (state.trans h)]
    rw [h] at row
    have powered := fits.powered (by simp [h]) (by simp [h])
    have unqueued := status.trans row.1
    refine crossInv_setCross others ?_
    cases he : (s.cross x).config.enabled with
    | true =>
      exact fits_empty (fits.idle row.1) emptied unqueued
        ⟨unqueued, fun disabled => absurd (he.symm.trans disabled) nofun⟩ (fun cut => absurd cut powered) nofun
    | false =>
      exact fits_empty (fits.idle row.1) emptied unqueued ⟨emptied, unqueued, he⟩ (fun _ => .inl rfl) nofun
  | disabled | opened | holding | dark =>
    have stays : emptiedQueue x s = s := by simp [emptiedQueue, state, h]
    rw [stays]
    refine same ?_
    simp only [h, Crossover.MeetsRow, status, config, guard] at row ⊢
    exact ⟨emptied, row.2⟩

/-! ### Operations that only remove entries -/

/-- From `s` to `t` nothing that the invariant reads has changed but the record of crossover `x`, which has shed
entries. -/
structure Removes (x : CrossNo) (s t : State) : Prop where
  shed : Shed (s.cross x) (t.cross x)
  rest : t.crossings = (s.setCross x (t.cross x)).crossings

theorem setCross_crossings (same : t.crossings = s.crossings) (x : CrossNo) (c : Crossover) :
    (t.setCross x c).crossings = (s.setCross x c).crossings := by
  obtain ⟨crossovers, commands, track, line⟩ := crossings_iff.mp same
  exact crossings_iff.mpr ⟨by simp only [State.setCross, crossovers], commands, track, line⟩

theorem Removes.refl : Removes x s s := ⟨⟨rfl, .refl _⟩, by simp⟩

theorem Removes.trans {u : State} (first : Removes x s t) (second : Removes x t u) : Removes x s u :=
  ⟨first.shed.trans second.shed, by
    rw [second.rest, setCross_crossings first.rest, setCross_setCross]⟩

theorem Removes.kept (removes : Removes x s t) : t.commands = s.commands ∧ t.track = s.track := by
  obtain ⟨-, commands, track, -⟩ := crossings_iff.mp removes.rest
  exact ⟨commands, track⟩

theorem Removes.othersFit (removes : Removes x s t) (others : OthersFit x s) : OthersFit x t :=
  othersFit_of_crossings removes.rest (othersFit_setCross others _)

theorem handChanged_crossings (slot : Option SlotNo) : (handChanged slot s).crossings = s.crossings := by
  unfold handChanged
  split
  · split <;> rfl
  · rfl

theorem completePassage_crossings (x : CrossNo) (e : ZoneEntry) (rest : List ZoneEntry) (outcome : PassageOutcome)
    (exit : Option (Time × ExitSensor)) : (completePassage x e rest outcome exit s).crossings =
      (s.setCross x ((s.cross x).passed rest (e.record outcome exit))).crossings := by
  have handed (o : List Output) (t : State) : (emit o t).crossings = t.crossings := rfl
  rw [completePassage_eq, handed]
  dsimp only
  split
  · exact handChanged_crossings e.slot
  · rfl

theorem completePassage_cross (x : CrossNo) (e : ZoneEntry) (rest : List ZoneEntry) (outcome : PassageOutcome)
    (exit : Option (Time × ExitSensor)) : (completePassage x e rest outcome exit s).cross x =
      (s.cross x).passed rest (e.record outcome exit) := by
  rw [cross_of_crossings (completePassage_crossings x e rest outcome exit), cross_setCross_self]

theorem completePassage_removes {e : ZoneEntry} {rest : List ZoneEntry} (sub : rest.Sublist (s.cross x).zone)
    (outcome : PassageOutcome) (exit : Option (Time × ExitSensor)) :
    Removes x s (completePassage x e rest outcome exit s) := by
  refine ⟨?_, ?_⟩
  · rw [completePassage_cross]
    exact shed_passed sub _
  · rw [completePassage_cross]
    exact completePassage_crossings x e rest outcome exit

/-- After removals the emptied-queue rule restores the invariant, whether the last entry was among them or not. -/
theorem settle_crossInv (inv : CrossInv s) (removes : Removes x s t) :
    CrossInv (settle x (!(s.cross x).zone.isEmpty) t) := by
  have fits := fitsAt_of_crossInv inv x
  have others := removes.othersFit (othersFit_of_crossInv inv x)
  obtain ⟨commands, track⟩ := removes.kept
  rw [FitsAt, ← commands, ← track] at fits
  unfold settle
  split
  · rename_i emptied
    exact emptiedQueue_crossInv others removes.shed (by simpa using (Bool.and_eq_true_iff.mp emptied).2) fits
  · rename_i left
    refine crossInv_of_othersFit others (removes.shed.fits ?_ fits)
    by_cases h : (s.cross x).zone = []
    · exact .inr h
    · exact .inl (by simpa [h] using left)

theorem removeEntry_eq_settle (x : CrossNo) (e : ZoneEntry) (rest : List ZoneEntry) (outcome : PassageOutcome)
    (exit : Option (Time × ExitSensor)) :
    removeEntry x e rest outcome exit s = settle x true (completePassage x e rest outcome exit s) := by
  simp only [removeEntry, settle, completePassage_cross, Bool.true_and]
  rfl

theorem removeEntry_crossInv {e : ZoneEntry} {rest : List ZoneEntry} (mem : e ∈ (s.cross x).zone)
    (sub : rest.Sublist (s.cross x).zone) (outcome : PassageOutcome) (exit : Option (Time × ExitSensor))
    (inv : CrossInv s) : CrossInv (removeEntry x e rest outcome exit s) := by
  have busy : (!(s.cross x).zone.isEmpty) = true := by simpa using List.ne_nil_of_mem mem
  rw [removeEntry_eq_settle, ← busy]
  exact settle_crossInv inv (completePassage_removes sub outcome exit)

/-! ### Approaches (R72 to R76) -/

theorem displaceSlot_removes (x : CrossNo) (slot : Option SlotNo) : Removes x s (displaceSlot x slot s) := by
  unfold displaceSlot
  split
  · exact .refl
  · dsimp only
    split
    · exact completePassage_removes List.eraseP_sublist _ _
    · exact .refl

theorem displaceHead_removes (x : CrossNo) : Removes x s (displaceHead x s) := by
  unfold displaceHead
  split
  · rename_i e rest hz
    split
    · exact completePassage_removes (hz ▸ List.sublist_cons_self e rest) _ _
    · exact .refl
  · exact .refl

/-- No two entries are of one slot, so with the first of a slot removed none is left (R70). -/
theorem eraseP_slot_absent {zone : List ZoneEntry} {a e : ZoneEntry} {k : SlotNo} (ok : ZoneOk zone) (ha : a ∈ zone)
    (hk : a.slot = some k) (he : e ∈ zone.eraseP fun e => e.slot == some k) : e.slot ≠ some k := by
  obtain ⟨-, nodup, -⟩ := ok
  obtain ⟨b, pre, post, before, hb, rfl, erased⟩ :=
    List.exists_of_eraseP (p := fun e => e.slot == some k) ha (by simp [hk])
  have slot : b.slot = some k := by simpa using hb
  rw [erased] at he
  rw [List.filterMap_append, List.filterMap_cons, slot] at nodup
  have after := (List.nodup_cons.mp (List.nodup_append.mp nodup).2.1).1
  rcases List.mem_append.mp he with he | he
  · simpa using before e he
  · exact fun hk => after (List.mem_filterMap.mpr ⟨e, he, hk⟩)

/-- After its first stage no entry of the slot is left (R70, R73). -/
theorem displaceSlot_absent (x : CrossNo) (slot : Option SlotNo) (ok : ZoneOk (s.cross x).zone) :
    NotInZone ((displaceSlot x slot s).cross x).zone slot := by
  rintro k rfl e he hk
  simp only [displaceSlot] at he
  split at he
  · rename_i a found
    rw [completePassage_cross] at he
    exact eraseP_slot_absent ok (List.mem_of_find?_eq_some found) (by simpa using List.find?_some found) he hk
  · rename_i absent
    have := List.find?_eq_none.mp absent e he
    simp [hk] at this

/-- After its second stage the queue has room (R70, R73). -/
theorem displaceHead_room (x : CrossNo) (ok : ZoneOk (s.cross x).zone) :
    ((displaceHead x s).cross x).zone.length ≤ 3 := by
  obtain ⟨length, -⟩ := ok
  unfold displaceHead
  split
  · rename_i e rest hz
    rw [hz] at length
    split
    · rw [completePassage_cross]
      exact Nat.le_of_succ_le_succ length
    · rename_i short
      rw [hz]
      exact Nat.le_of_lt_succ (Nat.not_le.mp short)
  · rename_i hz
    simp [hz]

theorem decideReturn_zone (x : CrossNo) : ((decideReturn x s).cross x).zone = (s.cross x).zone := by
  rw [decideReturn_eq, cross_setCross_self]
  rfl

theorem emptiedQueue_zone (x : CrossNo) : ((emptiedQueue x s).cross x).zone = (s.cross x).zone := by
  cases h : (s.cross x).state with
  | passing =>
    rw [emptiedQueue_passing s x h]
    cases hg : (s.cross x).staged with
    | none => rw [becomeOpen_plain s x hg, cross_setCross_self]
    | some g => rw [becomeOpen_staged s x hg, cross_setCross_self]
  | diverted =>
    rw [emptiedQueue_diverted s x h, becomeHolding_eq]
    split
    · rw [cross_setCross_self]
    · exact decideReturn_zone x
  | fault => rw [emptiedQueue_fault s x h, cross_setCross_self]
  | disabled | opened | throwing | holding | returning | dark => simp only [emptiedQueue, h]

theorem settle_zone (x : CrossNo) (held : Bool) : ((settle x held s).cross x).zone = (s.cross x).zone := by
  unfold settle
  split
  · exact emptiedQueue_zone x
  · rfl

/-- Table 5-4 gives a decision other than NONE exactly to a wished approach of an active crossover (R71). -/
theorem approachDecision_wished (active : c.state.active = true) (full wished : Bool) :
    wished = ((approachDecision c full wished).1 != .none) := by
  cases wished with
  | false => cases h : c.state <;> simp [approachDecision, h]
  | true =>
    cases h : c.state with
    | disabled | dark => simp [CrossState.active, h] at active
    | opened =>
      simp only [approachDecision, h, Bool.not_true, Bool.false_eq_true, if_false]
      split
      · rfl
      · split <;> rfl
    | _ => simp [approachDecision, h]

/-- An OPEN crossover decides by the wish, the guard and the room in the command queue (R74). -/
theorem approachDecision_opened (opened : c.state = .opened) (full wished : Bool) :
    approachDecision c full wished =
      if !wished then (.none, .passing) else if c.guardRunning then (.denied .guarded, .passing)
      else if full then (.denied .queue, .passing) else (.honored, .throwing) := by
  simp only [approachDecision, opened]

/-- An OPEN crossover throws for a wished approach with the guard elapsed and room in the command queue, and else lets
the car pass (R74). -/
theorem approachDecision_opened_state (opened : c.state = .opened) (full wished : Bool) :
    (approachDecision c full wished).2 =
      if wished && !c.guardRunning && !full then .throwing else .passing := by
  rw [approachDecision_opened opened]
  cases wished <;> cases c.guardRunning <;> cases full <;> rfl

/-- The new entry with the state that Table 5-4 gives keeps the row; an OPEN crossover that honours it is not among
them, for it comes to have a command. -/
theorem entered_row {slot : Option SlotNo} (active : (s.cross x).state.active = true)
    (unthrown : ¬((s.cross x).state = .opened ∧ (approachDecided x slot s).2 = .throwing))
    (row : (s.cross x).MeetsRow (s.cross x).state) : (entered x slot s).MeetsRow (entered x slot s).state := by
  have busy : (entered x slot s).zone ≠ [] := List.append_ne_nil_of_right_ne_nil _ (List.cons_ne_nil _ _)
  change Crossover.MeetsRow _ (approachDecided x slot s).2
  cases h : (s.cross x).state with
  | disabled | dark => simp [CrossState.active, h] at active
  | opened =>
    have passing : (approachDecided x slot s).2 = .passing := by
      have state : (approachDecided x slot s).2 = _ := approachDecision_opened_state h _ _
      split at state
      · exact absurd ⟨h, state⟩ unthrown
      · exact state
    rw [h] at row
    rw [passing]
    exact ⟨busy, row.2⟩
  | passing | diverted =>
    rw [h] at row
    simp only [approachDecided, approachDecision, h]
    exact ⟨busy, row.2⟩
  | holding =>
    rw [h] at row
    obtain ⟨-, status, enabled, -⟩ := row
    simp only [approachDecided, approachDecision, h]
    exact ⟨busy, status, enabled⟩
  | throwing | returning =>
    rw [h] at row
    simp only [approachDecided, approachDecision, h]
    exact row
  | fault =>
    rw [h] at row
    simp only [approachDecided, approachDecision, h]
    exact ⟨row.1, fun _ => busy⟩

theorem approachDecision_active (active : c.state.active = true) (full wished : Bool) :
    (approachDecision c full wished).2.active = true := by
  cases h : c.state with
  | disabled | dark => simp [CrossState.active, h] at active
  | opened =>
    simp only [approachDecision, h]
    split_ifs <;> rfl
  | _ => simp [approachDecision, h, CrossState.active]

/-- The new entry of an active crossover with room and no entry of the slot (R70, R72 ③). -/
theorem appendEntry_crossInv {slot : Option SlotNo} (inv : CrossInv s) (active : (s.cross x).state.active = true)
    (room : (s.cross x).zone.length ≤ 3) (absent : NotInZone (s.cross x).zone slot) :
    CrossInv (appendEntry x slot s) := by
  have others := othersFit_of_crossInv inv x
  have fits := fitsAt_of_crossInv inv x
  have zone : ZoneOk (entered x slot s).zone :=
    zoneOk_append fits.zone room absent (approachDecision_wished active _ _)
  have powered : s.track ≠ .cutoff := fits.powered (by rintro h; simp [h, CrossState.active] at active)
    (by rintro h; simp [h, CrossState.active] at active)
  by_cases h : (s.cross x).state = .opened ∧ (approachDecided x slot s).2 = .throwing
  · obtain ⟨opened, thrown⟩ := h
    have row := fits.row
    rw [opened] at row
    obtain ⟨-, status, enabled⟩ := row
    have idle := fits.idle status
    have short : s.commands.length < 8 := by
      have state : (approachDecided x slot s).2 = _ := approachDecision_opened_state opened _ _
      split at state
      · rename_i honored
        simp only [Bool.and_eq_true, Bool.not_eq_true', decide_eq_false_iff_not] at honored
        exact Nat.not_le.mp honored.2
      · exact absurd (thrown.symm.trans state) nofun
    rw [appendEntry_throw s x slot ⟨opened, thrown⟩]
    refine crossInv_setCross (othersFit_pushCommand (d := ⟨x, .throwing, _⟩) others short idle)
      ⟨?_, zone, Idle.fits_append (d := ⟨x, .throwing, _⟩) idle, fun h => absurd h powered, fun dark => ?_⟩
    · change Crossover.MeetsRow _ (approachDecided x slot s).2
      rw [thrown]
      exact ⟨rfl, enabled⟩
    · exact absurd (thrown.symm.trans dark) nofun
  · rw [appendEntry_plain s x slot h]
    have still : (approachDecided x slot s).2.active = true := approachDecision_active active _ _
    refine crossInv_setCross others ⟨entered_row active h fits.row, zone, fits.status, fun h => absurd h powered,
      fun dark => ?_⟩
    have dark : (approachDecided x slot s).2 = .dark := dark
    simp [dark, CrossState.active] at still

/-- An approach at an active crossover (R72). -/
theorem takeApproach_crossInv (slot : Option SlotNo) (inv : CrossInv s) : CrossInv (takeApproach x slot s) := by
  have ok := (fitsAt_of_crossInv inv x).zone
  have first := displaceSlot_removes (s := s) x slot
  have second := displaceHead_removes (s := displaceSlot x slot s) x
  have settled := settle_crossInv inv (first.trans second)
  have absent : NotInZone ((displaceHead x (displaceSlot x slot s)).cross x).zone slot :=
    fun k hk e he => displaceSlot_absent x slot ok k hk e (second.shed.sub.subset he)
  have room := displaceHead_room x (zoneOk_sublist first.shed.sub ok)
  rw [takeApproach_eq]
  unfold enter
  split
  · rename_i active
    exact appendEntry_crossInv settled active (settle_zone (s := displaceHead x _) x _ ▸ room)
      (settle_zone (s := displaceHead x _) x _ ▸ absent)
  · exact settled

/-! ### Exits and sightings (R64, R78 to R81) -/

theorem takeExit_crossInv (sensor : ExitSensor) (slot : Option SlotNo) (inv : CrossInv s) :
    CrossInv (takeExit x sensor slot s) := by
  simp only [takeExit]
  split
  · split
    · rename_i found
      exact removeEntry_crossInv (List.mem_of_find?_eq_some found) List.eraseP_sublist _ _ inv
    · exact inv
  · split
    · rename_i e rest hz
      exact removeEntry_crossInv (hz ▸ List.mem_cons_self) (hz ▸ List.sublist_cons_self e rest) _ _ inv
    · exact inv

theorem crossSighting_crossInv (sensor : Sensor) (slot : Option SlotNo) (inv : CrossInv s) :
    CrossInv (crossSighting x sensor slot s) := by
  unfold crossSighting
  split
  · split
    · exact takeApproach_crossInv slot inv
    · exact takeExit_crossInv _ slot inv
  · exact inv

end Sys2Proof.Machine
end

section
/-! Configurations, diverter reports, the cut-off and the resets keep the invariant of the crossovers (R89, R90, R92 to
R107, R111, R136 to R139). -/

namespace Sys2Proof.Machine

variable {s t : State} {x : CrossNo} {c d : Crossover}

/-! ### Configurations (R104 to R107) -/

/-- The record with a configuration in force keeps its row where the enable stays, whatever the guard becomes, unless it
is HOLDING (R105). -/
theorem fits_withConfig {commands : List SectionCommand} {track : TrackState} {now : Time} {g : CrossConfig}
    (enabled : g.enabled = c.config.enabled) (waiting : c.state ≠ .holding) (fits : Fits commands 0 track x c) :
    Fits commands 0 track x (c.withConfig now g) :=
  fits.congr rfl rfl rfl enabled fun h => absurd h waiting

/-- A configuration applied at once: an enable brings a DISABLED crossover back or leaves the state, and a disable takes
an OPEN, a DARK or an emptied FAULT crossover out of service (R105 to R107). -/
theorem applyConfig_crossInv (g : CrossConfig) (atOnce : (s.cross x).state.appliesAtOnce = true) (inv : CrossInv s) :
    CrossInv (applyConfig x g s) := by
  have others := othersFit_of_crossInv inv x
  have fits := fitsAt_of_crossInv inv x
  have row := fits.row
  have kept : ((s.cross x).withConfig s.time g).state = (s.cross x).state := rfl
  simp only [applyConfig, kept]
  cases h : (s.cross x).state with
  | passing | throwing | diverted | holding | returning => simp [h, CrossState.appliesAtOnce] at atOnce
  | disabled =>
    rw [h] at row
    obtain ⟨zone, status, -⟩ := row
    have idle := fits.idle status
    cases he : g.enabled with
    | true =>
      simp only [if_true]
      split
      · rename_i cut
        exact crossInv_setCross others (fits_empty idle zone status ⟨zone, status⟩ (fun _ => .inr rfl) fun _ => cut)
      · rename_i powered
        refine decideReturn_crossInv (othersFit_setCross others _) idle ?_ ?_ powered
        · rw [cross_setCross_self]; exact fits.zone
        · rw [cross_setCross_self]; exact he
    | false =>
      exact crossInv_setCross others
        (fits_empty idle zone status ⟨zone, status, he⟩ (fun _ => .inl rfl) nofun)
  | opened =>
    rw [h] at row
    obtain ⟨zone, status, enabled⟩ := row
    cases he : g.enabled with
    | true => exact crossInv_setCross others (fits_withConfig (he.trans enabled.symm) (by simp [h]) fits)
    | false =>
      exact crossInv_setCross others
        (fits_empty (fits.idle status) zone status ⟨zone, status, he⟩ (fun _ => .inl rfl) nofun)
  | dark =>
    rw [h] at row
    obtain ⟨zone, status⟩ := row
    have idle := fits.idle status
    cases he : g.enabled with
    | true =>
      refine crossInv_setCross others (fits_empty idle zone status ?_ fits.cut fits.dark)
      rw [kept, h]
      exact ⟨zone, status⟩
    | false =>
      exact crossInv_setCross others (fits_empty idle zone status ⟨zone, status, he⟩ (fun _ => .inl rfl) nofun)
  | fault =>
    rw [h] at row
    obtain ⟨status, -⟩ := row
    have idle := fits.idle status
    have stays (busy : g.enabled = false → (s.cross x).zone ≠ []) :
        CrossInv (s.setCross x ((s.cross x).withConfig s.time g)) := by
      refine crossInv_setCross others ⟨?_, fits.zone, fits.status, fits.cut, fits.dark⟩
      rw [kept, h]
      exact ⟨status, busy⟩
    cases he : g.enabled with
    | true => exact stays (by simp [he])
    | false =>
      simp only [Bool.false_eq_true, if_false]
      split
      · rename_i empty
        have zone : (s.cross x).zone = [] := List.isEmpty_iff.mp empty
        exact crossInv_setCross others
          (fits_empty idle zone status ⟨zone, status, he⟩ (fun _ => .inl rfl) nofun)
      · rename_i busy
        exact stays fun _ zone => busy (List.isEmpty_iff.mpr zone)

theorem loadConfig_crossInv (g : CrossConfig) (inv : CrossInv s) : CrossInv (loadConfig x g s) := by
  have staged (new : Option CrossConfig) : CrossInv (s.setCross x { s.cross x with staged := new }) := by
    have fits := fitsAt_of_crossInv inv x
    refine crossInv_setCross (othersFit_of_crossInv inv x) (fits.congr rfl rfl rfl rfl fun h => ?_)
    have row := fits.row
    rw [h] at row
    exact row.2.2.2
  simp only [loadConfig]
  split
  · rename_i atOnce
    refine applyConfig_crossInv g ?_ (staged none)
    rw [cross_setCross_self]
    exact atOnce
  · exact staged (some g)

/-- A FAULT with an empty zone is enabled, for a disable would have taken it out of service (R100, R106). -/
theorem free_of_emptied_fault (inv : CrossInv s) (fault : (s.cross x).state = .fault)
    (empty : (s.cross x).zone = []) : Free x s := by
  have fits := fitsAt_of_crossInv inv x
  have row := fits.row
  rw [fault] at row
  obtain ⟨status, busy⟩ := row
  refine ⟨othersFit_of_crossInv inv x, fits.idle status, empty, status, ?_,
    fits.powered (by simp [fault]) (by simp [fault])⟩
  by_contra disabled
  exact busy (Bool.eq_false_iff.mpr disabled) empty

/-! ### Diverter reports (R92 to R98) -/

/-- A crossover whose command was SENT, after the confirm. -/
theorem confirmCommand_cross : (confirmCommand x s).cross x =
    { s.cross x with
      status := .none, settled := s.time, guardRunning := (s.cross x).config.dead != 0 } :=
  cross_setCross_self s x _

/-- A confirmed command leaves an enabled crossover without a command. -/
theorem confirmed {kind : CommandKind} {deadline : Time} (inv : CrossInv s)
    (sent : (s.cross x).status = .sent kind deadline) : Idle s.commands x ∧ (s.cross x).config.enabled = true ∧
      s.track ≠ .cutoff := by
  have fits := fitsAt_of_crossInv inv x
  obtain ⟨enabled, state⟩ := row_of_commanded fits.row (by simp [sent])
  refine ⟨fits.status.idle (by simp [sent]), enabled, fits.powered ?_ ?_⟩
  · rcases state with ⟨h, -⟩ | ⟨h, -⟩ <;> simp [h]
  · rcases state with ⟨h, -⟩ | ⟨h, -⟩ <;> simp [h]

/-- After a confirm an empty zone leaves the crossover free for what comes next (R93, R97). -/
theorem confirmed_free {kind : CommandKind} {deadline : Time} (inv : CrossInv s)
    (sent : (s.cross x).status = .sent kind deadline) (empty : (s.cross x).zone = []) :
    Free x (confirmCommand x s) := by
  obtain ⟨idle, enabled, powered⟩ := confirmed inv sent
  refine ⟨othersFit_setCross (othersFit_of_crossInv inv x) _, idle, ?_, ?_, ?_, powered⟩
  all_goals rw [confirmCommand_cross]
  · exact empty
  · exact enabled

/-- After a confirm with a car in the zone the crossover is DIVERTED or PASSING (R93, R97). -/
theorem confirmed_busy {kind : CommandKind} {deadline : Time} {state : CrossState} (inv : CrossInv s)
    (sent : (s.cross x).status = .sent kind deadline) (busy : (s.cross x).zone ≠ [])
    (next : state = .diverted ∨ state = .passing) :
    CrossInv ((confirmCommand x s).setCross x { (confirmCommand x s).cross x with state := state }) := by
  obtain ⟨idle, enabled, powered⟩ := confirmed inv sent
  have fits := fitsAt_of_crossInv inv x
  rw [confirmCommand_cross]
  refine crossInv_setCross (othersFit_setCross (othersFit_of_crossInv inv x) _)
    ⟨?_, fits.zone, idle.fits_none, fun h => absurd h powered, ?_⟩
  · rcases next with rfl | rfl <;> exact ⟨busy, rfl, enabled⟩
  · rcases next with rfl | rfl <;> exact nofun

theorem confirmThrow_crossInv {kind : CommandKind} {deadline : Time} (inv : CrossInv s)
    (sent : (s.cross x).status = .sent kind deadline) : CrossInv (confirmThrow x s) := by
  have zone : ((confirmCommand x s).cross x).zone = (s.cross x).zone := by rw [confirmCommand_cross]
  simp only [confirmThrow]
  split
  · rename_i empty
    exact becomeHolding_crossInv (confirmed_free inv sent (zone ▸ List.isEmpty_iff.mp empty))
  · rename_i busy
    exact confirmed_busy inv sent (fun h => busy (List.isEmpty_iff.mpr (zone.trans h))) (.inl rfl)

theorem confirmReturn_crossInv {kind : CommandKind} {deadline : Time} (inv : CrossInv s)
    (sent : (s.cross x).status = .sent kind deadline) : CrossInv (confirmReturn x s) := by
  have zone : ((confirmCommand x s).cross x).zone = (s.cross x).zone := by rw [confirmCommand_cross]
  simp only [confirmReturn]
  split
  · rename_i empty
    exact becomeOpen_crossInv (confirmed_free inv sent (zone ▸ List.isEmpty_iff.mp empty))
  · rename_i busy
    exact confirmed_busy inv sent (fun h => busy (List.isEmpty_iff.mpr (zone.trans h))) (.inr rfl)

/-- Every active state but FAULT has enabled yes (Table 5-2). -/
theorem enabled_of_active (row : c.MeetsRow c.state) (active : c.state.active = true) (sound : c.state ≠ .fault) :
    c.config.enabled = true := by
  cases h : c.state with
  | disabled | dark => simp [CrossState.active, h] at active
  | fault => exact absurd h sound
  | opened | passing | diverted => rw [h] at row; exact row.2.2
  | holding => rw [h] at row; exact row.2.2.1
  | throwing | returning => rw [h] at row; exact row.2

/-- A POSITION report confirms a sent command, puts the crossover in FAULT, or does nothing (Table 6-2). -/
theorem takePosition_crossInv (pos : Position) (inv : CrossInv s) : CrossInv (takePosition x pos s) := by
  have fits := fitsAt_of_crossInv inv x
  have fault (active : (s.cross x).state.active = true) (sound : (s.cross x).state ≠ .fault) :
      CrossInv (enterFault x .wrongPosition s) :=
    enterFault_crossInv .wrongPosition inv (enabled_of_active fits.row active sound)
      (fits.powered (by rintro h; simp [h, CrossState.active] at active)
        (by rintro h; simp [h, CrossState.active] at active))
  cases h : (s.cross x).state with
  | disabled | fault | dark => simpa only [takePosition, h] using inv
  | opened | passing =>
    cases pos with
    | straight => simpa only [takePosition, h] using inv
    | divert => simpa only [takePosition, h] using fault (by simp [h, CrossState.active]) (by simp [h])
  | diverted | holding =>
    cases pos with
    | divert => simpa only [takePosition, h] using inv
    | straight => simpa only [takePosition, h] using fault (by simp [h, CrossState.active]) (by simp [h])
  | throwing =>
    simp only [takePosition, h]
    split
    · rename_i sent
      exact confirmThrow_crossInv inv sent
    · exact fault (by simp [h, CrossState.active]) (by simp [h])
  | returning =>
    simp only [takePosition, h]
    split
    · rename_i sent
      exact confirmReturn_crossInv inv sent
    · exact fault (by simp [h, CrossState.active]) (by simp [h])

/-- The guard of a HOLDING crossover elapses with its RETURN (R95). -/
theorem elapseGuard_crossInv (inv : CrossInv s) : CrossInv (elapseGuard x s) := by
  have others := othersFit_of_crossInv inv x
  have fits := fitsAt_of_crossInv inv x
  simp only [elapseGuard]
  split
  · rename_i holding
    have row := fits.row
    rw [holding] at row
    obtain ⟨-, status, enabled, -⟩ := row
    refine decideReturn_crossInv (othersFit_setCross others _) (fits.idle status) ?_ ?_
      (fits.powered (by simp [holding]) (by simp [holding]))
    · rw [cross_setCross_self]; exact fits.zone
    · rw [cross_setCross_self]; exact enabled
  · rename_i moving
    exact crossInv_setCross others (fits.congr rfl rfl rfl rfl fun h => absurd h moving)

/-! ### CUTOFF (R90, R137) -/

/-- A crossover without power: DARK, or out of service (Table 5-2, R137). -/
def Crossover.Off (c : Crossover) : Prop := c.state = .dark ∨ c.state = .disabled ∧ c.config.enabled = false

/-- In CUTOFF no crossover has a car or a command. -/
theorem off_of_cutoff (inv : CrossInv s) (cut : s.track = .cutoff) (x : CrossNo) :
    (s.cross x).zone = [] ∧ (s.cross x).status = .none ∧ (s.cross x).Off := by
  have fits := fitsAt_of_crossInv inv x
  have row := fits.row
  rcases fits.cut cut with h | h
  · rw [h] at row
    exact ⟨row.1, row.2.1, .inr ⟨h, row.2.2⟩⟩
  · rw [h] at row
    exact ⟨row.1, row.2, .inl h⟩

theorem mapTable_cross (f : Crossover → Crossover) (x : CrossNo) :
    ({ s with crossovers := mapTable f s.crossovers } : State).cross x = f (s.cross x) :=
  mapTable_getElem _ _ _ x.isLt

/-- With no commands at all, records without a command on a track that is cut off (R90). -/
theorem crossInv_of_cutoff (empty : s.commands = []) (cut : s.track = .cutoff)
    (off : ∀ x, (s.cross x).zone = [] ∧ (s.cross x).status = .none ∧ (s.cross x).Off) : CrossInv s := by
  refine crossInv_iff.mpr ⟨⟨by simp [empty], by simp [empty], fun _ => cut⟩, fun x => ?_⟩
  obtain ⟨zone, status, state⟩ := off x
  refine fits_empty (fun d hd => by simp [empty] at hd) zone status ?_ (fun _ => ?_) fun _ => cut
  · rcases state with h | ⟨h, enabled⟩
    · rw [h]; exact ⟨zone, status⟩
    · rw [h]; exact ⟨zone, status, enabled⟩
  · exact state.symm.imp And.left id

theorem enterCutoff_crossInv (records : ∀ x, (s.cross x).state = .disabled → (s.cross x).config.enabled = false) :
    CrossInv (enterCutoff s) := by
  refine crossInv_of_crossings (queueNotice_crossings _) (crossInv_of_cutoff rfl rfl fun x => ?_)
  have cross : ({ s with
      track := .cutoff, commands := [], crossovers := mapTable Crossover.darkened s.crossovers } : State).cross x =
    (s.cross x).darkened := mapTable_cross Crossover.darkened x
  rw [cross]
  refine ⟨rfl, rfl, ?_⟩
  by_cases h : (s.cross x).state = .disabled
  · exact .inr ⟨if_pos h, records x h⟩
  · exact .inl (if_neg h)

/-! ### Crossovers brought back one after another (R111, R139) -/

/-- A crossover is brought back: by a RETURN where it is enabled, and otherwise DISABLED (R111 ⑤, R139 ④). -/
def bringBack (s : State) (x : CrossNo) : State :=
  if (s.cross x).config.enabled then decideReturn x s else s.setCross x { s.cross x with state := .disabled }

theorem bringBack_cross_of_ne {y : CrossNo} (h : x ≠ y) : (bringBack s x).cross y = s.cross y := by
  unfold bringBack
  split
  · exact decideReturn_cross_of_ne s h
  · rw [cross_setCross, if_neg h]

/-- Part-way through bringing the crossovers back: those in `xs` still wait, with neither car nor command, and the
others fit. -/
structure PartlyBack (xs : List CrossNo) (s : State) : Prop where
  queue : QueueOk s
  powered : s.track ≠ .cutoff
  waits : ∀ x ∈ xs, (s.cross x).zone = [] ∧ (s.cross x).status = .none ∧ Idle s.commands x
  fits : ∀ x, x ∉ xs → FitsAt s x

theorem decideReturn_idle {y : CrossNo} (hy : y ≠ x) (idle : Idle s.commands y) :
    Idle (decideReturn x s).commands y := by
  rw [decideReturn_eq]
  intro d hd
  rcases List.mem_append.mp hd with h | h
  · exact idle d h
  · obtain ⟨z, hz, rfl⟩ := List.mem_map.mp h
    exact (List.mem_singleton.mp (List.mem_of_mem_take hz)) ▸ hy.symm

theorem bringBack_partlyBack {xs : List CrossNo} (new : x ∉ xs) (part : PartlyBack (x :: xs) s) :
    PartlyBack xs (bringBack s x) := by
  obtain ⟨queue, powered, waits, fits⟩ := part
  obtain ⟨zone, status, idle⟩ := waits x List.mem_cons_self
  have other {y : CrossNo} (hy : y ∉ xs) (hyx : y ≠ x) : FitsAt s y :=
    fits y fun h => (List.mem_cons.mp h).elim hyx hy
  have apart {y : CrossNo} (hy : y ∈ xs) : y ≠ x := fun h => new (h ▸ hy)
  have waiting {y : CrossNo} (hy : y ∈ xs) :
      ((bringBack s x).cross y).zone = [] ∧ ((bringBack s x).cross y).status = .none ∧ Idle s.commands y := by
    rw [bringBack_cross_of_ne (apart hy).symm]
    exact waits y (List.mem_cons_of_mem x hy)
  unfold bringBack at waiting ⊢
  split at waiting
  · rename_i enabled
    rw [if_pos enabled]
    refine ⟨decideReturn_queueOk queue idle, ?_, fun y hy => ?_, fun y hy => ?_⟩
    · rw [decideReturn_eq]
      exact powered
    · obtain ⟨zone, status, idle⟩ := waiting hy
      exact ⟨zone, status, decideReturn_idle (apart hy) idle⟩
    · by_cases hyx : y = x
      · subst hyx
        exact decideReturn_fitsAt queue idle (zone ▸ zoneOk_nil) enabled powered
      · exact decideReturn_fitsAt_of_ne hyx (other hy hyx)
  · rename_i disabled
    rw [if_neg disabled]
    refine ⟨⟨queue.length, queue.nodup, queue.line⟩, powered, fun y hy => waiting hy, fun y hy => ?_⟩
    by_cases hyx : y = x
    · subst hyx
      rw [FitsAt, cross_setCross_self]
      exact fits_empty idle zone status ⟨zone, status, Bool.eq_false_iff.mpr disabled⟩ (fun _ => .inl rfl) nofun
    · exact fitsAt_setCross_of_ne hyx _ (other hy hyx)

theorem foldl_bringBack_crossInv {xs : List CrossNo} (nodup : xs.Nodup) (part : PartlyBack xs s) :
    CrossInv (xs.foldl bringBack s) := by
  induction xs generalizing s with
  | nil => exact crossInv_iff.mpr ⟨part.queue, fun x => part.fits x List.not_mem_nil⟩
  | cons x xs ih =>
    obtain ⟨new, nodup⟩ := List.nodup_cons.mp nodup
    exact ih nodup (bringBack_partlyBack new part)

/-- An operation that brings back the crossovers whose records meet a condition does so one after another, since none
of them touches the record of another. -/
theorem foldl_eq_bringBack {f : State → CrossNo → State} {P : Crossover → Prop}
    (same : ∀ s x, P (s.cross x) → f s x = bringBack s x) {xs : List CrossNo} (nodup : xs.Nodup)
    (meets : ∀ x ∈ xs, P (s.cross x)) : xs.foldl f s = xs.foldl bringBack s := by
  induction xs generalizing s with
  | nil => rfl
  | cons x xs ih =>
    obtain ⟨new, nodup⟩ := List.nodup_cons.mp nodup
    rw [List.foldl_cons, List.foldl_cons, same s x (meets x List.mem_cons_self)]
    refine ih nodup fun y hy => ?_
    rw [bringBack_cross_of_ne (by rintro rfl; exact new hy)]
    exact meets y (List.mem_cons_of_mem x hy)

/-- CLEAR-CUTOFF brings back the DARK crossovers; the DISABLED ones are back already (R139 ④). -/
theorem resyncDark_eq (off : (s.cross x).Off) : resyncDark s x = bringBack s x := by
  rcases off with h | ⟨h, disabled⟩
  · simp only [resyncDark, h, if_true, bringBack]
  · have same : { s.cross x with state := .disabled } = s.cross x := by rw [← h]
    simp [resyncDark, bringBack, h, disabled, same]

/-- RESTART brings back the enabled crossovers; the others are DISABLED already (R111 ⑤). -/
theorem resyncEnabled_eq (back : (s.cross x).config.enabled = false → (s.cross x).state = .disabled) :
    resyncEnabled s x = bringBack s x := by
  cases h : (s.cross x).config.enabled with
  | true => simp only [resyncEnabled, bringBack, h, if_true]
  | false =>
    have same : { s.cross x with state := .disabled } = s.cross x := by rw [← back h]
    simp [resyncEnabled, bringBack, h, same]

/-- The cut-off is left with the line released (R139). -/
theorem leaveCutoff_crossInv (cut : s.track = .cutoff) (released : s.faultLine = false) (inv : CrossInv s) :
    CrossInv (leaveCutoff s) := by
  have off := off_of_cutoff inv cut
  have queue := (crossInv_iff.mp inv).1
  refine crossInv_of_crossings (queueNotice_crossings _) ?_
  rw [foldl_eq_bringBack (s := { s with track := .halt }) (P := Crossover.Off) (fun s x => resyncDark_eq)
    (List.nodup_finRange 16) fun x _ => (off x).2.2]
  refine foldl_bringBack_crossInv (List.nodup_finRange 16)
    ⟨⟨queue.length, queue.nodup, fun h => absurd (released.symm.trans h) nofun⟩, nofun, fun x _ => ?_,
      fun x hx => absurd (List.mem_finRange x) hx⟩
  obtain ⟨zone, status, -⟩ := off x
  exact ⟨zone, status, (fitsAt_of_crossInv inv x).idle status⟩

/-! ### RESTART (R111, R156) -/

/-- What RESTART leaves of the crossovers meets the invariant whatever was before. -/
theorem restartCrossovers_crossInv (line : s.faultLine = true → s.track = .cutoff) :
    CrossInv (restartCrossovers s) := by
  have cleared (x : CrossNo) := zonesForgotten_cross s x
  by_cases cut : s.track = .cutoff
  · rw [restartCrossovers_cutoff s cut]
    refine crossInv_of_cutoff rfl cut fun x => ?_
    rw [cleared]
    refine ⟨rfl, rfl, ?_⟩
    cases h : (s.cross x).config.enabled with
    | true => exact .inl (by simp [Crossover.restarted, h, cut])
    | false => exact .inr ⟨by simp [Crossover.restarted, h], h⟩
  · have running : restartCrossovers s = (List.finRange 16).foldl resyncEnabled (zonesForgotten s) := if_neg cut
    rw [running, foldl_eq_bringBack (P := fun c => c.config.enabled = false → c.state = .disabled)
      (fun s x => resyncEnabled_eq) (List.nodup_finRange 16) fun x _ disabled => ?_]
    · refine foldl_bringBack_crossInv (List.nodup_finRange 16)
        ⟨⟨Nat.zero_le 8, List.nodup_nil, line⟩, cut, fun x _ => ?_, fun x hx => absurd (List.mem_finRange x) hx⟩
      rw [cleared]
      exact ⟨rfl, rfl, nofun⟩
    · rw [cleared] at disabled ⊢
      have disabled : (s.cross x).config.enabled = false := disabled
      simp [Crossover.restarted, disabled]

theorem restartPart_crossInv : CrossInv (restartPart s) := by
  rw [restartPart_eq]
  exact crossInv_of_crossings (queueNotice_crossings _) (restartCrossovers_crossInv fun h => if_pos h)

end Sys2Proof.Machine
end

section
/-! Handsets, slots, windows, beacons and the rails leave the crossovers, the section command queue and the track alone
(Chapters 1 to 4, 7, 8 and 10). -/

namespace Sys2Proof.Machine

variable (s : State)

/-! ### One record replaced, and what is handed on -/

@[simp] theorem emit_crossings (o : List Output) : (emit o s).crossings = s.crossings := rfl
@[simp] theorem setEntry_crossings (h : EntryNo) (e : Entry) : (s.setEntry h e).crossings = s.crossings := rfl
@[simp] theorem makeBinding_crossings (h : EntryNo) (k : SlotNo) : (makeBinding h k s).crossings = s.crossings := rfl
@[simp] theorem breakBinding_crossings (h : EntryNo) (k : SlotNo) : (breakBinding h k s).crossings = s.crossings := rfl
@[simp] theorem echoTo_crossings (h : EntryNo) (body : EchoBody) : (echoTo h body s).crossings = s.crossings := rfl
@[simp] theorem answer_crossings (tag code : Byte) (bytes : List Byte) :
    (answer tag code bytes s).crossings = s.crossings := rfl

/-! ### Bindings and windows (Chapters 2 and 3) -/

@[simp] theorem breakBindingOf_crossings (h : EntryNo) : (breakBindingOf h s).crossings = s.crossings := by
  unfold breakBindingOf
  split
  · exact breakBinding_crossings s h _
  · rfl

@[simp] theorem closeWindow_crossings (h : EntryNo) (reason : CloseReason) :
    (closeWindow h reason s).crossings = s.crossings := by
  rw [closeWindow_eq]
  rfl

@[simp] theorem closeIfOpen_crossings (h : EntryNo) (reason : CloseReason) :
    (closeIfOpen h reason s).crossings = s.crossings := by
  unfold closeIfOpen
  split
  · exact closeWindow_crossings s h reason
  · rfl

@[simp] theorem openWindow_crossings (h : EntryNo) : (openWindow h s).crossings = s.crossings := by
  unfold openWindow
  split <;> rfl

@[simp] theorem openRequest_crossings (h : EntryNo) : (openRequest h s).crossings = s.crossings := by
  unfold openRequest
  split
  · exact closeWindow_crossings s h _
  · exact openWindow_crossings s h

/-- A sighting taken by the Pairing Unit (R43, R44). -/
@[simp] theorem pairSighting_crossings (slot : Option SlotNo) : (pairSighting slot s).crossings = s.crossings := by
  unfold pairSighting
  split
  · split
    · simp
    · rfl
  all_goals rfl

/-! ### Handset events (Chapter 1) -/

@[simp] theorem handPair_crossings (h : EntryNo) (press window : Bool) :
    (handPair h press window s).crossings = s.crossings := by
  unfold handPair
  split
  · split <;> exact openRequest_crossings s h
  · rfl

@[simp] theorem handLc_crossings (bound : Option SlotNo) (press lc : Bool) :
    (handLc bound press lc s).crossings = s.crossings := by
  unfold handLc
  split
  · rfl
  · split
    · rfl
    all_goals split <;> rfl

theorem acceptSample_crossings (h : EntryNo) (e : Enrolled) (m : Sample) :
    (acceptSample h e m s).crossings = s.crossings := by
  simp only [acceptSample, handLc_crossings, handPair_crossings]
  split <;> rfl

theorem knownSample_crossings (h : EntryNo) (e : Enrolled) (m : Sample) :
    (knownSample h e m s).crossings = s.crossings := by
  unfold knownSample
  split
  · split
    · rfl
    · exact acceptSample_crossings s h e m
  · exact acceptSample_crossings s h e m

theorem unknownSample_crossings (id : RadioId) (m : Sample) : (unknownSample id m s).crossings = s.crossings := by
  unfold unknownSample
  split
  · split
    · exact openRequest_crossings _ _
    · rfl
  · rfl

theorem routeSample_crossings (payload : List Byte) : (routeSample payload s).crossings = s.crossings := by
  unfold routeSample
  split
  · dsimp only
    split
    · rfl
    · unfold takeSample
      split
      · split
        · exact knownSample_crossings s _ _ _
        · rfl
      · exact unknownSample_crossings s _ _
  · rfl

theorem loseHandset_crossings {h : EntryNo} {e : Enrolled} (he : s.entry h = some e) (window : Bool) :
    (loseHandset h e window s).crossings = s.crossings := by
  rw [loseHandset_eq s he, emit_crossings, lostFrom, setEntry_crossings]
  cases e.bound <;> rfl

theorem releaseHandset_crossings (h : EntryNo) : (releaseHandset h s).crossings = s.crossings := by
  simp [releaseHandset]

/-! ### BIND and UNBIND (R29, R49) -/

theorem bindHandset_crossings (h : EntryNo) (k : SlotNo) : (bindHandset h k s).crossings = s.crossings := by
  have taken (t : State) : (takeFromOther h k t).crossings = t.crossings := by
    unfold takeFromOther
    split
    · split <;> rfl
    all_goals rfl
  have broken (t : State) : (breakOther h k t).crossings = t.crossings := by
    unfold breakOther
    split
    · split <;> rfl
    · rfl
  simp [bindHandset, taken, broken]

theorem unbindSlot_crossings (k : SlotNo) : (unbindSlot k s).crossings = s.crossings := by
  unfold unbindSlot
  split
  · simp
  all_goals rfl

/-! ### Drive frames (R112) -/

theorem formDrive_crossings (k : SlotNo) : (formDrive k s).crossings = s.crossings := by
  have applied : (applyPending k s).crossings = s.crossings := by
    simp only [applyPending]
    split <;> rfl
  exact applied

/-! ### Requests (R150, R151) -/

variable (tag : Byte) (args : List Byte)

theorem statusRequest_crossings : (statusRequest tag args s).crossings = s.crossings := by
  unfold statusRequest
  split <;> rfl

theorem readHandsetRequest_crossings : (readHandsetRequest tag args s).crossings = s.crossings := by
  unfold readHandsetRequest
  split
  · split <;> rfl
  · rfl

theorem readSlotRequest_crossings : (readSlotRequest tag args s).crossings = s.crossings := by
  unfold readSlotRequest
  split
  · split <;> rfl
  · rfl

theorem readWindowsRequest_crossings : (readWindowsRequest tag args s).crossings = s.crossings := by
  unfold readWindowsRequest
  split <;> rfl

theorem profileFirstRequest_crossings : (profileFirstRequest tag args s).crossings = s.crossings := by
  unfold profileFirstRequest
  split <;> rfl

theorem profileSecondRequest_crossings : (profileSecondRequest tag args s).crossings = s.crossings := by
  unfold profileSecondRequest
  split
  · split <;> rfl
  · rfl

theorem bindRequest_crossings : (bindRequest tag args s).crossings = s.crossings := by
  unfold bindRequest
  split
  · split
    · split
      · rfl
      · split
        · rfl
        · exact bindHandset_crossings s _ _
    · rfl
  · rfl

theorem unbindRequest_crossings : (unbindRequest tag args s).crossings = s.crossings := by
  unfold unbindRequest
  split
  · split
    · exact unbindSlot_crossings s _
    · rfl
  · rfl

theorem forgetRequest_crossings : (forgetRequest tag args s).crossings = s.crossings := by
  unfold forgetRequest
  split
  · split
    · split
      · rfl
      · exact (releaseHandset_crossings _ _).trans (closeIfOpen_crossings s _ _)
    · rfl
  · rfl

theorem setPaceRequest_crossings : (setPaceRequest tag args s).crossings = s.crossings := by
  unfold setPaceRequest
  split
  · split
    · split <;> rfl
    · rfl
  · rfl

theorem wishRequest_crossings : (wishRequest tag args s).crossings = s.crossings := by
  unfold wishRequest
  split
  · split
    · split <;> rfl
    · rfl
  · rfl

theorem beaconRequest_crossings : (beaconRequest tag args s).crossings = s.crossings := by
  unfold beaconRequest
  split
  · split
    · dsimp only
      split <;> rfl
    · rfl
  · rfl

theorem beaconClearRequest_crossings : (beaconClearRequest tag args s).crossings = s.crossings := by
  unfold beaconClearRequest
  split
  · split <;> rfl
  · rfl

theorem toleranceRequest_crossings : (toleranceRequest tag args s).crossings = s.crossings := by
  unfold toleranceRequest
  split
  · dsimp only
    split <;> rfl
  · rfl

theorem linkSetRequest_crossings : (linkSetRequest tag args s).crossings = s.crossings := by
  unfold linkSetRequest
  split <;> rfl

end Sys2Proof.Machine
end

section
/-! Every request, every command and every step keeps the invariant of the crossovers (O9). -/

namespace Sys2Proof.Machine

variable {s t : State}

/-! ### Requests on crossovers and the track (R87, R100, R104, R136, R139) -/

section
variable (tag : Byte) (args : List Byte) (inv : CrossInv s)
include inv

/-- LAST's new flag is no part of the invariant (R87). -/
theorem readCrossoverRequest_crossInv : CrossInv (readCrossoverRequest tag args s) := by
  unfold readCrossoverRequest
  split
  · split
    · rename_i x _
      have fits := fitsAt_of_crossInv inv x
      have cleared : CrossInv (s.setCross x { s.cross x with lastNew := false }) := by
        refine crossInv_setCross (othersFit_of_crossInv inv x) (fits.congr rfl rfl rfl rfl fun h => ?_)
        have row := fits.row
        rw [h] at row
        exact row.2.2.2
      exact cleared
    · exact inv
  · exact inv

theorem crossoverSetRequest_crossInv : CrossInv (crossoverSetRequest tag args s) := by
  unfold crossoverSetRequest
  split
  · split
    · exact crossInv_of_crossings (answer_crossings _ tag 0x40 _) (loadConfig_crossInv _ inv)
    · exact inv
  · exact inv

/-- A FAULT is cleared with its zone empty (R100). -/
theorem crossoverClearRequest_crossInv : CrossInv (crossoverClearRequest tag args s) := by
  unfold crossoverClearRequest
  split
  · split
    · split
      · exact inv
      · rename_i fault
        split
        · exact inv
        · rename_i empty
          have free := free_of_emptied_fault inv (not_not.mp fault) (by simpa using empty)
          exact crossInv_of_crossings (answer_crossings _ tag 0x41 []) free.decideReturn_crossInv
    · exact inv
  · exact inv

theorem trackRequest_crossInv : CrossInv (trackRequest tag args s) := by
  obtain ⟨queue, fits⟩ := crossInv_iff.mp inv
  unfold trackRequest
  split
  · rename_i b _
    split
    · exact inv
    · rename_i powered
      have still : trackArg b ≠ .cutoff := by unfold trackArg; split <;> simp
      refine crossInv_iff.mpr ⟨⟨queue.length, queue.nodup, fun h => absurd (queue.line h) powered⟩, fun x => ?_⟩
      have own := fits x
      exact ⟨own.row, own.zone, own.status, fun h => absurd h still, fun h => absurd (own.dark h) powered⟩
  · exact inv

theorem clearCutoffRequest_crossInv : CrossInv (clearCutoffRequest tag args s) := by
  unfold clearCutoffRequest
  split
  · split
    · exact inv
    · rename_i released
      split
      · exact inv
      · rename_i cut
        exact crossInv_of_crossings (answer_crossings _ tag 0x51 [])
          (leaveCutoff_crossInv (not_not.mp cut) (Bool.eq_false_iff.mpr released) inv)
  · exact inv

theorem restartRequest_crossInv : CrossInv (restartRequest tag args s) := by
  unfold restartRequest
  split
  · exact restartPart_crossInv
  · exact inv

/-- A code of Table 12-4 names its request, and every other is refused (R151 ①). -/
theorem requestByCode_crossInv (code : Byte) : CrossInv (requestByCode tag code args s) := by
  have same {t : State} (h : t.crossings = s.crossings) : CrossInv t := crossInv_of_crossings h inv
  unfold requestByCode
  split
  · exact same (statusRequest_crossings ..)
  · exact same (readHandsetRequest_crossings ..)
  · exact same (readSlotRequest_crossings ..)
  · exact readCrossoverRequest_crossInv tag args inv
  · exact same (readWindowsRequest_crossings ..)
  · exact same (profileFirstRequest_crossings ..)
  · exact same (profileSecondRequest_crossings ..)
  · exact same (bindRequest_crossings ..)
  · exact same (unbindRequest_crossings ..)
  · exact same (forgetRequest_crossings ..)
  · exact same (setPaceRequest_crossings ..)
  · exact same (wishRequest_crossings ..)
  · exact same (beaconRequest_crossings ..)
  · exact same (beaconClearRequest_crossings ..)
  · exact same (toleranceRequest_crossings ..)
  · exact crossoverSetRequest_crossInv tag args inv
  · exact crossoverClearRequest_crossInv tag args inv
  · exact trackRequest_crossInv tag args inv
  · exact clearCutoffRequest_crossInv tag args inv
  · exact same (linkSetRequest_crossings ..)
  · exact restartRequest_crossInv tag args inv
  · exact inv

/-- A request is taken with room for its reply, or discarded (R144). -/
theorem onRequest_crossInv (code : Byte) : CrossInv (onRequest (requestByCode tag code args) s) := by
  have taken : CrossInv s.handTaken := inv
  unfold onRequest
  dsimp only
  split
  · exact requestByCode_crossInv tag args taken code
  · exact taken

end

/-! ### The two lines (R108, R142) -/

theorem routeFrame_crossInv (kind : Byte) (payload : List Byte) (inv : CrossInv s) :
    CrossInv (routeFrame kind payload s) := by
  unfold routeFrame
  split
  · exact crossInv_of_crossings (routeSample_crossings s.handTaken payload) inv
  · split
    · split
      · exact onRequest_crossInv _ _ inv _
      · exact inv
    · exact inv

theorem receiveHand_crossInv (bytes : List Byte) (inv : CrossInv s) : CrossInv (receiveHand bytes s) := by
  induction bytes generalizing s with
  | nil => exact inv
  | cons b rest ih =>
    unfold receiveHand
    split
    · exact ih inv
    · exact ih (routeFrame_crossInv _ _ inv)

/-- Whichever of the two units takes the sighting first, the crossovers keep their invariant (R65). -/
theorem takeSighting_crossInv (x : CrossNo) (sensor p w : Byte) (inv : CrossInv s) :
    CrossInv (takeSighting x sensor p w s) := by
  unfold takeSighting
  split
  · exact inv
  · split
    · exact inv
    · rename_i sensor _ _
      obtain ⟨draws, h | h⟩ :=
        handSighting_eitherOrder x sensor (classify s { cycle := p.toNat, duty := w.toNat }) s
      · rw [h]
        exact crossSighting_crossInv _ _ (crossInv_of_crossings (pairSighting_crossings _ _) inv)
      · rw [h]
        exact crossInv_of_crossings (pairSighting_crossings _ _) (crossSighting_crossInv _ _ inv)

theorem receiveSection_crossInv (bytes : List Byte) (inv : CrossInv s) : CrossInv (receiveSection bytes s) := by
  induction bytes generalizing s with
  | nil => exact inv
  | cons b rest ih =>
    unfold receiveSection
    split
    · exact ih inv
    · rename_i r _
      refine ih ?_
      cases r with
      | sighting x sensor p w => exact takeSighting_crossInv x sensor p w inv
      | position x pos => exact takePosition_crossInv pos inv

/-! ### Commands and steps -/

theorem silenceExpiry_crossings {h : EntryNo} (ht : exec (.silenceExpiry h) s = .next t) :
    t.crossings = s.crossings := by
  obtain rfl := Host.Outcome.next.inj ht
  split
  · split
    · split
      · exact loseHandset_crossings s ‹_› _
      · rfl
    · rfl
  · rfl

theorem releaseExpiry_crossings {h : EntryNo} (ht : exec (.releaseExpiry h) s = .next t) :
    t.crossings = s.crossings := by
  obtain rfl := Host.Outcome.next.inj ht
  split
  · split
    · split
      · exact releaseHandset_crossings s h
      · rfl
    · rfl
    · rfl
  · rfl

theorem windowExpiry_crossings {h : EntryNo} (ht : exec (.windowExpiry h) s = .next t) :
    t.crossings = s.crossings := by
  obtain rfl := Host.Outcome.next.inj ht
  split
  · split
    · exact closeWindow_crossings s h .expired
    · rfl
  · rfl

theorem clearDeadlineExpiry_crossInv {x : CrossNo} {i : Fin 4} (inv : CrossInv s)
    (ht : exec (.clearDeadlineExpiry x i) s = .next t) : CrossInv t := by
  obtain rfl := Host.Outcome.next.inj ht
  split
  · rename_i found
    split
    · exact removeEntry_crossInv (List.mem_of_getElem? found) (List.eraseIdx_sublist _ _) _ _ inv
    · exact inv
  · exact inv

theorem guardElapse_crossInv {x : CrossNo} (inv : CrossInv s) (ht : exec (.guardElapse x) s = .next t) :
    CrossInv t := by
  obtain rfl := Host.Outcome.next.inj ht
  split
  · exact elapseGuard_crossInv inv
  · exact inv

/-- A SENT command is that of an enabled crossover (R91, R94). -/
theorem confirmDeadlineExpiry_crossInv {x : CrossNo} (inv : CrossInv s)
    (ht : exec (.confirmDeadlineExpiry x) s = .next t) : CrossInv t := by
  obtain rfl := Host.Outcome.next.inj ht
  split
  · rename_i sent
    split
    · obtain ⟨-, enabled, powered⟩ := confirmed inv sent
      exact enterFault_crossInv .confirmTimeout inv enabled powered
    · exact inv
  all_goals exact inv

theorem faultLineAsserted_crossInv (inv : CrossInv s) (ht : exec .faultLineAsserted s = .next t) : CrossInv t := by
  obtain ⟨queue, fits⟩ := crossInv_iff.mp inv
  obtain rfl := Host.Outcome.next.inj ht
  split
  · rename_i cut
    exact crossInv_iff.mpr ⟨⟨queue.length, queue.nodup, fun _ => cut⟩, fits⟩
  · refine enterCutoff_crossInv fun x disabled => ?_
    have row := (fits x).row
    have disabled : (s.cross x).state = .disabled := disabled
    rw [disabled] at row
    exact row.2.2

theorem faultLineReleased_crossInv (inv : CrossInv s) (ht : exec .faultLineReleased s = .next t) : CrossInv t := by
  obtain ⟨queue, fits⟩ := crossInv_iff.mp inv
  obtain rfl := Host.Outcome.next.inj ht
  exact crossInv_iff.mpr ⟨⟨queue.length, queue.nodup, nofun⟩, fits⟩

theorem headFrame_crossings (ht : exec .headFrame s = .next t) : t.crossings = s.crossings := by
  obtain rfl := Host.Outcome.next.inj ht
  split <;> rfl

theorem driveFrame_crossings {k : SlotNo} (ht : exec (.driveFrame k) s = .next t) : t.crossings = s.crossings := by
  obtain rfl := Host.Outcome.next.inj ht
  split
  · exact formDrive_crossings s k
  · rfl

theorem gateFrame_crossInv (inv : CrossInv s) (ht : exec .gateFrame s = .next t) : CrossInv t := by
  obtain rfl := Host.Outcome.next.inj ht
  split
  · exact formGate_crossInv 9 inv
  · split
    · exact formGate_crossInv 10 inv
    · exact inv

theorem codeFrame_crossings (ht : exec .codeFrame s = .next t) : t.crossings = s.crossings := by
  obtain rfl := Host.Outcome.next.inj ht
  split <;> rfl

/-- A request command is what its code of Table 12-4 names. -/
theorem request_crossInv {tag code : Byte} {args : List Byte} (inv : CrossInv s)
    (ht : (Host.Outcome.next (onRequest (requestByCode tag code args) s) : Result) = .next t) : CrossInv t :=
  Host.Outcome.next.inj ht ▸ onRequest_crossInv tag args inv code

/-- Every command keeps the invariant of the crossovers. -/
theorem exec_crossInv {c : Instr} (inv : CrossInv s) (ht : exec c s = .next t) : CrossInv t := by
  cases c with
  | sample payload =>
    exact crossInv_of_crossings (Host.Outcome.next.inj ht ▸ routeSample_crossings s.handTaken payload) inv
  | silenceExpiry h => exact crossInv_of_crossings (silenceExpiry_crossings ht) inv
  | releaseExpiry h => exact crossInv_of_crossings (releaseExpiry_crossings ht) inv
  | windowExpiry h => exact crossInv_of_crossings (windowExpiry_crossings ht) inv
  | sighting x sensor p w =>
    exact Host.Outcome.next.inj ht ▸ takeSighting_crossInv (s := s.reportTaken) x sensor p w inv
  | clearDeadlineExpiry x i => exact clearDeadlineExpiry_crossInv inv ht
  | guardElapse x => exact guardElapse_crossInv inv ht
  | position x pos => exact Host.Outcome.next.inj ht ▸ takePosition_crossInv (s := s.reportTaken) pos inv
  | confirmDeadlineExpiry x => exact confirmDeadlineExpiry_crossInv inv ht
  | sectionFrameDiscard bytes => exact Host.Outcome.next.inj ht ▸ receiveSection_crossInv bytes inv
  | sectionByteTimeout => exact Host.Outcome.next.inj ht ▸ inv
  | handLinkFrameDiscard bytes => exact Host.Outcome.next.inj ht ▸ receiveHand_crossInv bytes inv
  | handLinkByteTimeout => exact Host.Outcome.next.inj ht ▸ inv
  | unknownRequest tag code args => exact request_crossInv inv ht
  | status tag args => exact request_crossInv (code := 0x01) inv ht
  | readHandset tag args => exact request_crossInv (code := 0x02) inv ht
  | readSlot tag args => exact request_crossInv (code := 0x03) inv ht
  | readCrossover tag args => exact request_crossInv (code := 0x04) inv ht
  | readWindows tag args => exact request_crossInv (code := 0x05) inv ht
  | profileFirst tag args => exact request_crossInv (code := 0x10) inv ht
  | profileSecond tag args => exact request_crossInv (code := 0x11) inv ht
  | bind tag args => exact request_crossInv (code := 0x20) inv ht
  | unbind tag args => exact request_crossInv (code := 0x21) inv ht
  | forget tag args => exact request_crossInv (code := 0x22) inv ht
  | setPace tag args => exact request_crossInv (code := 0x23) inv ht
  | wish tag args => exact request_crossInv (code := 0x24) inv ht
  | beacon tag args => exact request_crossInv (code := 0x30) inv ht
  | beaconClear tag args => exact request_crossInv (code := 0x31) inv ht
  | tolerance tag args => exact request_crossInv (code := 0x32) inv ht
  | crossoverSet tag args => exact request_crossInv (code := 0x40) inv ht
  | crossoverClear tag args => exact request_crossInv (code := 0x41) inv ht
  | track tag args => exact request_crossInv (code := 0x50) inv ht
  | clearCutoff tag args => exact request_crossInv (code := 0x51) inv ht
  | linkSet tag args => exact request_crossInv (code := 0x60) inv ht
  | restart tag args => exact request_crossInv (code := 0x7F) inv ht
  | powerOnReset asserted => exact Host.Outcome.next.inj ht ▸ poweredOn_crossInv asserted s
  | faultLineAsserted => exact faultLineAsserted_crossInv inv ht
  | faultLineReleased => exact faultLineReleased_crossInv inv ht
  | headFrame => exact crossInv_of_crossings (headFrame_crossings ht) inv
  | driveFrame k => exact crossInv_of_crossings (driveFrame_crossings ht) inv
  | gateFrame => exact gateFrame_crossInv inv ht
  | codeFrame => exact crossInv_of_crossings (codeFrame_crossings ht) inv
  | transmitterFrameEnd => exact Host.Outcome.next.inj ht ▸ inv

/-- Settles O9: a step is one millisecond, which moves TIME alone, or a command. -/
theorem stepKeepsCrossoversAndCommands : Obligations.StepKeepsCrossoversAndCommands := by
  unfold Obligations.StepKeepsCrossoversAndCommands
  intro s t inv ht
  unfold step at ht
  split at ht
  · exact Host.Outcome.next.inj ht ▸ inv
  · rename_i c rest _
    exact exec_crossInv (s := { s with pending := rest }) inv ht

end Sys2Proof.Machine
end

section
/-! The fault line (R90, R137, R138). -/

namespace Sys2Proof.Machine

/-- Settles O30: CUTOFF is entered with every record darkened, and in CUTOFF and at the release only the line is
recorded. -/
theorem faultLineCutsTheTrackOff : Obligations.FaultLineCutsTheTrackOff := by
  unfold Obligations.FaultLineCutsTheTrackOff
  refine ⟨fun s => ⟨fun powered => ?asserted, fun cut => ?recorded⟩, fun s => rfl⟩
  case asserted =>
    refine ⟨_, congrArg Host.Outcome.next (if_neg powered), rfl, fun x => ?_⟩
    exact mapTable_getElem _ _ _ x.isLt
  case recorded => exact congrArg Host.Outcome.next (if_pos cut)

end Sys2Proof.Machine
end

section
/-! What is taken at one crossover leaves the records of the others, but for room given to an OWED RETURN (R68,
R102). -/

namespace Sys2Proof.Machine

/-- The record of crossover `y` is as it was, or its OWED RETURN was given room (R102). -/
def LeftAlone (y : CrossNo) (s t : State) : Prop :=
  t.cross y = s.cross y ∨
    ∃ pulse, (s.cross y).status = .owed pulse ∧ t.cross y = { s.cross y with status := .queued .returning }

theorem leftAlone_of_cross {s t u : State} {y : CrossNo} (same : t.cross y = s.cross y) (later : LeftAlone y t u) :
    LeftAlone y s u := by
  rwa [LeftAlone, same] at later

/-! ### Operations that leave the other records -/

section

variable (s : State) {x y : CrossNo} (apart : x ≠ y)
include apart

theorem setCross_cross_of_ne (c : Crossover) : (s.setCross x c).cross y = s.cross y := by
  rw [cross_setCross, if_neg apart]

theorem applyConfig_cross_of_ne (g : CrossConfig) : (applyConfig x g s).cross y = s.cross y := by
  have replaced (c : Crossover) := setCross_cross_of_ne s apart c
  simp only [applyConfig]
  split
  · split
    · split
      · exact replaced _
      · exact (decideReturn_cross_of_ne _ apart).trans (replaced _)
    all_goals exact replaced _
  · split
    case h_4 => split <;> exact replaced _
    all_goals exact replaced _

theorem loadConfig_cross_of_ne (g : CrossConfig) : (loadConfig x g s).cross y = s.cross y := by
  simp only [loadConfig]
  split
  · exact (applyConfig_cross_of_ne _ apart g).trans (setCross_cross_of_ne s apart _)
  · exact setCross_cross_of_ne s apart _

theorem becomeOpen_cross_of_ne : (becomeOpen x s).cross y = s.cross y := by
  simp only [becomeOpen]
  split
  · exact setCross_cross_of_ne s apart _
  · exact (applyConfig_cross_of_ne _ apart _).trans (setCross_cross_of_ne s apart _)

theorem becomeHolding_cross_of_ne : (becomeHolding x s).cross y = s.cross y := by
  rw [becomeHolding_eq]
  split
  · exact setCross_cross_of_ne s apart _
  · exact decideReturn_cross_of_ne s apart

theorem emptiedQueue_cross_of_ne : (emptiedQueue x s).cross y = s.cross y := by
  simp only [emptiedQueue]
  split
  · exact becomeOpen_cross_of_ne s apart
  · exact becomeHolding_cross_of_ne s apart
  · split
    · rfl
    · exact setCross_cross_of_ne s apart _
  all_goals rfl

theorem removes_cross_of_ne {s t : State} (removes : Removes x s t) : t.cross y = s.cross y :=
  (cross_of_crossings removes.rest y).trans (setCross_cross_of_ne s apart _)

theorem completePassage_cross_of_ne (e : ZoneEntry) (rest : List ZoneEntry) (outcome : PassageOutcome)
    (exit : Option (Time × ExitSensor)) : (completePassage x e rest outcome exit s).cross y = s.cross y :=
  (cross_of_crossings (completePassage_crossings x e rest outcome exit) y).trans (setCross_cross_of_ne s apart _)

theorem settle_cross_of_ne (held : Bool) : (settle x held s).cross y = s.cross y := by
  unfold settle
  split
  · exact emptiedQueue_cross_of_ne s apart
  · rfl

theorem removeEntry_cross_of_ne (e : ZoneEntry) (rest : List ZoneEntry) (outcome : PassageOutcome)
    (exit : Option (Time × ExitSensor)) : (removeEntry x e rest outcome exit s).cross y = s.cross y := by
  rw [removeEntry_eq_settle]
  exact (settle_cross_of_ne _ apart true).trans (completePassage_cross_of_ne s apart e rest outcome exit)

theorem appendEntry_cross_of_ne (slot : Option SlotNo) : (appendEntry x slot s).cross y = s.cross y := by
  by_cases h : (s.cross x).state = .opened ∧ (approachDecided x slot s).2 = .throwing
  · rw [appendEntry_throw s x slot h]
    exact setCross_cross_of_ne _ apart _
  · rw [appendEntry_plain s x slot h]
    exact setCross_cross_of_ne s apart _

theorem takeApproach_cross_of_ne (slot : Option SlotNo) : (takeApproach x slot s).cross y = s.cross y := by
  have cleared := removes_cross_of_ne apart
    ((displaceSlot_removes (s := s) x slot).trans (displaceHead_removes x))
  have settled := (settle_cross_of_ne _ apart (!(s.cross x).zone.isEmpty)).trans cleared
  rw [takeApproach_eq]
  unfold enter
  split
  · exact (appendEntry_cross_of_ne _ apart slot).trans settled
  · exact settled

theorem takeExit_cross_of_ne (sensor : ExitSensor) (slot : Option SlotNo) :
    (takeExit x sensor slot s).cross y = s.cross y := by
  simp only [takeExit]
  split
  · split
    · exact removeEntry_cross_of_ne s apart ..
    · rfl
  · split
    · exact removeEntry_cross_of_ne s apart ..
    · rfl

theorem crossSighting_cross_of_ne (sensor : Sensor) (slot : Option SlotNo) :
    (crossSighting x sensor slot s).cross y = s.cross y := by
  unfold crossSighting
  split
  · split
    · exact takeApproach_cross_of_ne s apart slot
    · exact takeExit_cross_of_ne s apart _ slot
  · rfl

/-- The Pairing Unit touches no crossover, so both units leave the others (R65, R68). -/
theorem takeSighting_cross_of_ne (sensor p w : Byte) : (takeSighting x sensor p w s).cross y = s.cross y := by
  unfold takeSighting
  split
  · rfl
  · split
    · rfl
    · rename_i sensor _ _
      have paired (t : State) (slot : Option SlotNo) : (pairSighting slot t).cross y = t.cross y :=
        cross_of_crossings (pairSighting_crossings t slot) y
      obtain ⟨draws, h | h⟩ :=
        handSighting_eitherOrder x sensor (classify s { cycle := p.toNat, duty := w.toNat }) s
      · rw [h, crossSighting_cross_of_ne _ apart, paired]
        rfl
      · rw [h, paired, crossSighting_cross_of_ne _ apart]
        rfl

theorem confirmThrow_cross_of_ne : (confirmThrow x s).cross y = s.cross y := by
  have confirmed : (confirmCommand x s).cross y = s.cross y := setCross_cross_of_ne s apart _
  simp only [confirmThrow]
  split
  · exact (becomeHolding_cross_of_ne _ apart).trans confirmed
  · exact (setCross_cross_of_ne _ apart _).trans confirmed

theorem confirmReturn_cross_of_ne : (confirmReturn x s).cross y = s.cross y := by
  have confirmed : (confirmCommand x s).cross y = s.cross y := setCross_cross_of_ne s apart _
  simp only [confirmReturn]
  split
  · exact (becomeOpen_cross_of_ne _ apart).trans confirmed
  · exact (setCross_cross_of_ne _ apart _).trans confirmed

theorem elapseGuard_cross_of_ne : (elapseGuard x s).cross y = s.cross y := by
  simp only [elapseGuard]
  split
  · exact (decideReturn_cross_of_ne _ apart).trans (setCross_cross_of_ne s apart _)
  · exact setCross_cross_of_ne s apart _

/-! ### FAULT, which may give room (R99, R102) -/

omit apart in
theorem serveOwed_leftAlone (y : CrossNo) : LeftAlone y s (serveOwed s) := by
  unfold serveOwed
  split
  · exact .inl rfl
  · rename_i z _
    split
    · exact .inl rfl
    · rename_i pulse owed
      by_cases hz : z = y
      · subst hz
        exact .inr ⟨pulse, owedPulse_eq_some.mp owed, cross_setCross_self _ z _⟩
      · exact .inl (setCross_cross_of_ne _ hz _)

theorem enterFault_leftAlone (cause : FaultCause) : LeftAlone y s (enterFault x cause s) := by
  simp only [enterFault]
  split
  · exact leftAlone_of_cross (setCross_cross_of_ne _ apart _) (serveOwed_leftAlone _ y)
  · exact .inl (setCross_cross_of_ne s apart _)

theorem takePosition_leftAlone (pos : Position) : LeftAlone y s (takePosition x pos s) := by
  have fault := enterFault_leftAlone s apart .wrongPosition
  cases h : (s.cross x).state with
  | disabled | fault | dark => exact .inl (by simp only [takePosition, h])
  | opened | passing =>
    cases pos with
    | straight => exact .inl (by simp only [takePosition, h])
    | divert => simpa only [takePosition, h] using fault
  | diverted | holding =>
    cases pos with
    | divert => exact .inl (by simp only [takePosition, h])
    | straight => simpa only [takePosition, h] using fault
  | throwing =>
    simp only [takePosition, h]
    split
    · exact .inl (confirmThrow_cross_of_ne s apart)
    · exact fault
  | returning =>
    simp only [takePosition, h]
    split
    · exact .inl (confirmReturn_cross_of_ne s apart)
    · exact fault

/-! ### Commands -/

variable {t : State}

theorem clearDeadlineExpiry_cross_of_ne {s : State} {i : Fin 4} (ht : exec (.clearDeadlineExpiry x i) s = .next t) :
    t.cross y = s.cross y := by
  obtain rfl := Host.Outcome.next.inj ht
  split
  · split
    · exact removeEntry_cross_of_ne s apart ..
    · rfl
  · rfl

theorem guardElapse_cross_of_ne {s : State} (ht : exec (.guardElapse x) s = .next t) : t.cross y = s.cross y := by
  obtain rfl := Host.Outcome.next.inj ht
  split
  · exact elapseGuard_cross_of_ne s apart
  · rfl

theorem confirmDeadlineExpiry_leftAlone {s : State} (ht : exec (.confirmDeadlineExpiry x) s = .next t) :
    LeftAlone y s t := by
  obtain rfl := Host.Outcome.next.inj ht
  split
  · split
    · exact enterFault_leftAlone s apart .confirmTimeout
    · exact .inl rfl
  all_goals exact .inl rfl

omit apart in
/-- A request at crossover `x`, taken or discarded (R144). -/
theorem onRequest_cross_of_ne {s : State} {take : State → State} (taken : ∀ s, (take s).cross y = s.cross y)
    (ht : (Host.Outcome.next (onRequest take s) : Result) = .next t) : t.cross y = s.cross y := by
  obtain rfl := Host.Outcome.next.inj ht
  unfold onRequest
  dsimp only
  split
  · exact taken s.handTaken
  · rfl

theorem readCrossoverRequest_cross_of_ne (tag : Byte) :
    (readCrossoverRequest tag [byte x.val] s).cross y = s.cross y := by
  simp only [readCrossoverRequest, crossArg_byte]
  exact setCross_cross_of_ne s.draw apart _

theorem crossoverSetRequest_cross_of_ne (tag b1 b2 b3 b4 b5 b6 : Byte) :
    (crossoverSetRequest tag [byte x.val, b1, b2, b3, b4, b5, b6] s).cross y = s.cross y := by
  simp only [crossoverSetRequest, crossArg_byte]
  exact loadConfig_cross_of_ne s apart _

theorem crossoverClearRequest_cross_of_ne (tag : Byte) :
    (crossoverClearRequest tag [byte x.val] s).cross y = s.cross y := by
  simp only [crossoverClearRequest, crossArg_byte]
  split
  · rfl
  · split
    · rfl
    · exact decideReturn_cross_of_ne s apart

end

/-- Settles O12: each command of one crossover leaves the other records, and room is given by a FAULT alone. -/
theorem otherCrossoversAreLeftAlone : Obligations.OtherCrossoversAreLeftAlone := by
  unfold Obligations.OtherCrossoversAreLeftAlone
  intro c x y s t apart ht hc
  change LeftAlone y s t
  rcases hc with ⟨sensor, p, w, rfl⟩ | ⟨pos, rfl⟩ | ⟨i, rfl⟩ | rfl | rfl | ⟨tag, rfl⟩ | ⟨tag, rfl⟩ |
    ⟨tag, b1, b2, b3, b4, b5, b6, rfl⟩
  · exact .inl (Host.Outcome.next.inj ht ▸ takeSighting_cross_of_ne s.reportTaken apart sensor p w)
  · exact Host.Outcome.next.inj ht ▸ takePosition_leftAlone s.reportTaken apart pos
  · exact .inl (clearDeadlineExpiry_cross_of_ne apart ht)
  · exact .inl (guardElapse_cross_of_ne apart ht)
  · exact confirmDeadlineExpiry_leftAlone apart ht
  · exact .inl (onRequest_cross_of_ne (fun s => readCrossoverRequest_cross_of_ne s apart tag) ht)
  · exact .inl (onRequest_cross_of_ne (fun s => crossoverClearRequest_cross_of_ne s apart tag) ht)
  · exact .inl (onRequest_cross_of_ne
      (fun s => crossoverSetRequest_cross_of_ne s apart tag b1 b2 b3 b4 b5 b6) ht)

end Sys2Proof.Machine
end

section
/-! Approaches that find room in the zone: the decision of Table 5-4 (R70 to R76). -/

namespace Sys2Proof.Machine

variable {s : State} {x : CrossNo} {slot : Option SlotNo} {c : Crossover} {wished : Bool}

/-! ### The approach (R64, R72) -/

/-- A sighting from A at an active crossover that does nothing to pairing is an approach. -/
theorem sighting_approach {p w : Byte} (beacons : BeaconInv s) (good : GoodMeasurement p w)
    (measures : Measures s p w slot) (quiet : NoPairing s slot) (active : (s.cross x).state.active = true) :
    exec (.sighting x 0 p w) s = .next (takeApproach x slot s.reportTaken) := by
  rw [sighting_of_noPairing s (sensor := .a) rfl good (classify_of_measures beacons measures) quiet]
  exact congrArg _ (if_pos active)

theorem displaceSlot_absent_eq (absent : NotInZone (s.cross x).zone slot) : displaceSlot x slot s = s := by
  cases slot with
  | none => rfl
  | some k => simp only [displaceSlot, find_slot_none absent]

theorem displaceHead_room_eq (room : (s.cross x).zone.length < 4) : displaceHead x s = s := by
  unfold displaceHead
  split
  · rename_i hz
    rw [hz] at room
    exact if_neg (Nat.not_le.mpr room)
  · rfl

theorem settle_unchanged : settle x (!(s.cross x).zone.isEmpty) s = s := if_neg (by simp)

theorem enter_active (active : (s.cross x).state.active = true) : enter x slot s = appendEntry x slot s :=
  if_pos active

theorem enter_dropped (dropped : (s.cross x).state.active = false) : enter x slot s = s := if_neg (by simp [dropped])

/-- With room and no entry of the slot nothing is displaced (R72, R73). -/
theorem takeApproach_room (active : (s.cross x).state.active = true) (room : (s.cross x).zone.length < 4)
    (absent : NotInZone (s.cross x).zone slot) : takeApproach x slot s = appendEntry x slot s := by
  rw [takeApproach_eq, displaceSlot_absent_eq absent, displaceHead_room_eq room, settle_unchanged, enter_active active]

/-! ### The new entry, decided (Table 5-4) -/

/-- The record with a new entry at the tail and the state that goes with its decision (R72 ③). -/
def Crossover.entering (c : Crossover) (slot : Option SlotNo) (wished : Bool) (decision : Decision)
    (state : CrossState) (s : State) : Crossover :=
  { c with
    zone := c.zone ++ [⟨slot, wished, decision, s.time, s.after c.config.clear⟩]
    state := state }

/-- A decision without a THROW makes the entry alone. -/
theorem appendEntry_decided {decision : Decision} {state : CrossState} (hc : s.cross x = c)
    (hw : approachWished slot s = wished)
    (decided : approachDecision c (decide (8 ≤ s.commands.length)) wished = (decision, state))
    (unthrown : c.state = .opened → state ≠ .throwing) :
    appendEntry x slot s = s.setCross x (c.entering slot wished decision state s) := by
  subst hc hw
  have made : approachDecided x slot s = (decision, state) := decided
  rw [appendEntry_plain s x slot fun h => unthrown h.1 (by rw [← h.2, made]), entered, made]
  rfl

/-- An approach decided at an OPEN crossover: NONE, DENIED GUARD, DENIED QUEUE, or HONORED with a THROW queued
(R74). -/
theorem appendEntry_opened (hc : s.cross x = c) (opened : c.state = .opened) (hw : approachWished slot s = wished) :
    (wished = false →
      appendEntry x slot s = s.setCross x (c.entering slot wished .none .passing s)) ∧
    (wished = true → c.guardRunning = true →
      appendEntry x slot s = s.setCross x (c.entering slot wished (.denied .guarded) .passing s)) ∧
    (wished = true → c.guardRunning = false → 8 ≤ s.commands.length →
      appendEntry x slot s = s.setCross x (c.entering slot wished (.denied .queue) .passing s)) ∧
    (wished = true → c.guardRunning = false → s.commands.length < 8 →
      appendEntry x slot s =
        ({ s with commands := s.commands ++ [(⟨x, .throwing, c.config.pulse⟩ : SectionCommand)] }.setCross x
          { c.entering slot wished .honored .throwing s with status := .queued .throwing })) := by
  have decided := approachDecision_opened opened
  refine ⟨fun unwished => ?_, fun wish guard => ?_, fun wish elapsed full => ?_, fun wish elapsed room => ?_⟩
  · exact appendEntry_decided hc hw (by rw [decided, unwished]; rfl) nofun
  · exact appendEntry_decided hc hw (by rw [decided, wish, guard]; rfl) nofun
  · exact appendEntry_decided hc hw (by rw [decided, wish, elapsed, decide_eq_true full]; rfl) nofun
  · subst hc hw
    have made : approachDecided x slot s = (.honored, .throwing) := by
      rw [approachDecided, decided, wish, elapsed, decide_eq_false (Nat.not_le.mpr room)]
      rfl
    rw [appendEntry_throw s x slot ⟨opened, by rw [made]⟩, entered, made]
    rfl

/-- The rows of Table 5-4 but those of OPEN: state, decision of a wished approach, next state (R75, R76). -/
def approachRows : List (CrossState × Decision × CrossState) :=
  [(.passing, .denied .occupied, .passing), (.throwing, .honored, .throwing), (.diverted, .honored, .diverted),
    (.holding, .honored, .diverted), (.returning, .denied .guarded, .returning), (.fault, .denied .fault, .fault)]

theorem mem_approachRows {row : CrossState × Decision × CrossState} : row ∈ approachRows ↔
    row = (.passing, .denied .occupied, .passing) ∨ row = (.throwing, .honored, .throwing) ∨
    row = (.diverted, .honored, .diverted) ∨ row = (.holding, .honored, .diverted) ∨
    row = (.returning, .denied .guarded, .returning) ∨ row = (.fault, .denied .fault, .fault) := by
  simp [approachRows]

/-- Each row gives the decision and the next state, and is of an active crossover that is not OPEN. -/
theorem approachDecision_row {row : CrossState × Decision × CrossState} (hrow : row ∈ approachRows)
    (h : c.state = row.1) (full wished : Bool) :
    approachDecision c full wished = (if wished then row.2.1 else .none, row.2.2) ∧
      c.state.active = true ∧ c.state ≠ .opened := by
  rcases mem_approachRows.mp hrow with rfl | rfl | rfl | rfl | rfl | rfl <;>
    simp [approachDecision, h, CrossState.active]

/-- An approach decided by a row of Table 5-4 (R75, R76). -/
theorem appendEntry_row {row : CrossState × Decision × CrossState} (hrow : row ∈ approachRows)
    (hc : s.cross x = c) (h : c.state = row.1) (hw : approachWished slot s = wished) :
    appendEntry x slot s = s.setCross x (c.entering slot wished (if wished then row.2.1 else .none) row.2.2 s) := by
  obtain ⟨decided, -, unopened⟩ := approachDecision_row hrow h (decide (8 ≤ s.commands.length)) wished
  exact appendEntry_decided hc hw decided fun opened => absurd opened unopened

/-- Settles O43: nothing is displaced in an empty zone, and the entry is decided as OPEN does. -/
theorem approachAtOpenIsDecided : Obligations.ApproachAtOpenIsDecided := by
  unfold Obligations.ApproachAtOpenIsDecided
  intro s x p w slot c wished new beacons good measures quiet hc opened empty hwished hnew
  have hw : approachWished slot s.reportTaken = wished := by rw [hwished]; cases slot <;> rfl
  have taken : exec (.sighting x 0 p w) s = .next (appendEntry x slot s.reportTaken) := by
    have active : (s.cross x).state.active = true := by rw [← hc, opened]; rfl
    rw [sighting_approach beacons good measures quiet active, takeApproach_room (s := s.reportTaken) active]
    · change (s.cross x).zone.length < 4
      rw [← hc, empty]
      exact Nat.zero_lt_succ 3
    · change NotInZone (s.cross x).zone slot
      rw [← hc, empty]
      exact nofun
  have entry (decision : Decision) (state : CrossState) :
      c.entering slot wished decision state s.reportTaken = { c with zone := [new decision], state := state } := by
    rw [Crossover.entering, empty, hnew]
    rfl
  obtain ⟨unwished, guarded, full, room⟩ := appendEntry_opened (s := s.reportTaken) hc.symm opened hw
  simp only [entry] at unwished guarded full room
  simp only [taken]
  exact ⟨fun h => congrArg _ (unwished h), fun h hg => congrArg _ (guarded h hg),
    fun h hg hf => congrArg _ (full h hg hf), fun h hg hr => congrArg _ (room h hg hr)⟩

/-- Settles O44: nothing is displaced, and the entry is decided by the row of the state. -/
theorem approachElsewhereIsDecided : Obligations.ApproachElsewhereIsDecided := by
  unfold Obligations.ApproachElsewhereIsDecided
  intro s x p w slot c wished beacons good measures quiet hc room absent hwished row hrow hstate
  subst hc
  have hw : approachWished slot s.reportTaken = wished := by rw [hwished]; cases slot <;> rfl
  have active := (approachDecision_row hrow hstate false wished).2.1
  rw [sighting_approach beacons good measures quiet active,
    takeApproach_room (s := s.reportTaken) active room absent,
    appendEntry_row (s := s.reportTaken) hrow rfl hstate hw]
  rfl

end Sys2Proof.Machine
end

section
/-! Approaches that displace an entry while others remain (R72, R73). -/

namespace Sys2Proof.Machine

variable {s : State} {x : CrossNo} {slot : Option SlotNo} {e : ZoneEntry} {pre post : List ZoneEntry}

/-- What displacement of entry `e` leaves, with the notice handed on: the record and the entries that remain. -/
def displaced (x : CrossNo) (e : ZoneEntry) (rest : List ZoneEntry) (s : State) : State :=
  s.setCross x ((s.cross x).passed rest (e.record .unverified none))

/-- The two stages of displacement: the entry of the same slot, or else the head of a queue of 4 (R73). -/
theorem displace_eq (hz : (s.cross x).zone = pre ++ e :: post) (absent : NotInZone (pre ++ post) slot)
    (which : (slot.isSome = true ∧ e.slot = slot ∧ (pre ++ post).length ≤ 3) ∨
      (NotInZone [e] slot ∧ pre = [] ∧ post.length = 3)) :
    displaceHead x (displaceSlot x slot s) =
      emit [.notice (.lane x e.slot .unverified)] (displaced x e (pre ++ post) s) := by
  rcases which with ⟨some, he, room⟩ | ⟨other, rfl, full⟩
  · obtain ⟨k, rfl⟩ := Option.isSome_iff_exists.mp some
    obtain ⟨found, left⟩ := find_slot hz he fun j hj a ha => absent j hj a (List.mem_append_left post ha)
    have first : displaceSlot x (.some k) s =
        emit [.notice (.lane x e.slot .unverified)] (displaced x e (pre ++ post) s) := by
      simp only [displaceSlot, found, left]
      exact completePassage_unchanged s x e _ none (by decide) (by decide)
    rw [first]
    refine displaceHead_room_eq ?_
    rw [emit_cross, displaced, cross_setCross_self]
    exact Nat.lt_succ_of_le room
  · have unheld : NotInZone (s.cross x).zone slot := by
      rw [hz]
      intro k hk a ha
      rcases List.mem_cons.mp ha with rfl | ha
      · exact other k hk a List.mem_cons_self
      · exact absent k hk a ha
    rw [displaceSlot_absent_eq unheld]
    unfold displaceHead
    rw [hz]
    exact (if_pos (by simp [full])).trans (completePassage_unchanged s x e _ none (by decide) (by decide))

theorem emit_enter (o : List Output) : enter x slot (emit o s) = emit o (enter x slot s) := by
  unfold enter
  rw [emit_cross, emit_appendEntry]
  split <;> rfl

/-- Settles O45: the crossover keeps its state and decides the new entry by its row of Table 5-4. -/
theorem approachDisplacesAnEntry : Obligations.ApproachDisplacesAnEntry := by
  unfold Obligations.ApproachDisplacesAnEntry
  intro s x p w slot c wished e pre post beacons good measures quiet hc hz remain absent which hwished row hrow hstate
  subst hc
  have hw : approachWished slot (displaced x e (pre ++ post) s.reportTaken) = wished := by
    rw [hwished]; cases slot <;> rfl
  have mem : (row.1, row.2, row.1) ∈ approachRows := by
    simp only [List.mem_cons, List.not_mem_nil, or_false] at hrow
    rcases hrow with rfl | rfl | rfl | rfl | rfl <;> simp [approachRows]
  have active := (approachDecision_row mem hstate false wished).2.1
  have cross : (displaced x e (pre ++ post) s.reportTaken).cross x =
      (s.cross x).passed (pre ++ post) (e.record .unverified none) := cross_setCross_self _ x _
  have unsettled : settle x (!(s.cross x).zone.isEmpty)
      (emit [.notice (.lane x e.slot .unverified)] (displaced x e (pre ++ post) s.reportTaken)) =
      emit [.notice (.lane x e.slot .unverified)] (displaced x e (pre ++ post) s.reportTaken) := by
    refine if_neg ?_
    rw [emit_cross, cross]
    simp [Crossover.passed, remain]
  rw [sighting_approach beacons good measures quiet active, takeApproach_eq,
    displace_eq (s := s.reportTaken) hz absent which]
  change Host.Outcome.next (enter x slot (settle x (!(s.cross x).zone.isEmpty) _)) = _
  rw [unsettled, emit_enter, enter_active (by rw [cross]; exact active), appendEntry_row mem cross hstate hw,
    displaced, setCross_setCross]
  simp only [Crossover.entering, Crossover.passed, ← hstate]
  rfl

end Sys2Proof.Machine
end

section
/-! The emptied-queue rule row by row (R85, R95, R96, R105, R106), and the approach that displaces the only entry. -/

namespace Sys2Proof.Machine

variable (s : State) {x : CrossNo} {c : Crossover}

/-! ### The emptied-queue rule at a record just replaced -/

/-- The record with a staged configuration applied, its guard judged by TIME less the settled time (R105; log
entry 10). -/
def Crossover.applied (c : Crossover) (g : CrossConfig) (state : CrossState) (now : Time) : Crossover :=
  { c with
    config := g, staged := none, guardRunning := decide ((now - c.settled).toNat < g.dead)
    state := state }

theorem emptied_passing (h : c.state = .passing) (plain : c.staged = none) :
    emptiedQueue x (s.setCross x c) = s.setCross x { c with state := .opened } := by
  rw [emptiedQueue_passing _ x (by simpa using h), becomeOpen_plain _ x (by simpa using plain), cross_setCross_self,
    setCross_setCross]

theorem emptied_staged {g : CrossConfig} (h : c.state = .passing) (hg : c.staged = some g) :
    emptiedQueue x (s.setCross x c) =
      s.setCross x (c.applied g (if g.enabled then .opened else .disabled) s.time) := by
  rw [emptiedQueue_passing _ x (by simpa using h), becomeOpen_staged _ x (g := g) (by simpa using hg),
    cross_setCross_self, setCross_setCross]
  rfl

theorem emptied_guarded (h : c.state = .diverted) (guard : c.guardRunning = true) :
    emptiedQueue x (s.setCross x c) = s.setCross x { c with state := .holding } := by
  rw [emptiedQueue_diverted _ x (by simpa using h), becomeHolding_eq, cross_setCross_self, if_pos guard,
    setCross_setCross]

theorem emptied_elapsed (h : c.state = .diverted) (elapsed : c.guardRunning = false) :
    emptiedQueue x (s.setCross x c) = decideReturn x (s.setCross x c) := by
  rw [emptiedQueue_diverted _ x (by simpa using h), becomeHolding_eq, cross_setCross_self, if_neg (by simp [elapsed])]

theorem emptied_room (h : c.state = .diverted) (elapsed : c.guardRunning = false) (room : s.commands.length < 8) :
    emptiedQueue x (s.setCross x c) =
      ({ s with commands := s.commands ++ [(⟨x, .returning, c.config.pulse⟩ : SectionCommand)] }.setCross x
        { c with state := .returning, status := .queued .returning }) := by
  rw [emptied_elapsed s h elapsed, decideReturn_room (s.setCross x c) x room, cross_setCross_self]
  simp only [State.setCross, Vector.set_set]

theorem emptied_full (h : c.state = .diverted) (elapsed : c.guardRunning = false) (full : 8 ≤ s.commands.length) :
    emptiedQueue x (s.setCross x c) =
      s.setCross x { c with state := .returning, status := .owed c.config.pulse } := by
  rw [emptied_elapsed s h elapsed, decideReturn_full (s.setCross x c) x full, cross_setCross_self, setCross_setCross]

theorem emptied_stays (h : c.state = .throwing ∨ c.state = .returning) :
    emptiedQueue x (s.setCross x c) = s.setCross x c := emptiedQueue_stays _ x (by simpa using h)

theorem emptied_fault (h : c.state = .fault) : emptiedQueue x (s.setCross x c) =
    s.setCross x { c with state := if c.config.enabled then .fault else .disabled } := by
  rw [emptiedQueue_fault _ x (by simpa using h), cross_setCross_self, setCross_setCross]

/-! ### The only entry displaced -/

variable {s} {e : ZoneEntry} {k : SlotNo}

/-- An approach that displaces the only entry: the emptied-queue rule, and then the new entry where the crossover is
still active (R72). -/
theorem takeApproach_displacing_only (only : (s.cross x).zone = [e]) (he : e.slot = some k) :
    takeApproach x (some k) s = emit [.notice (.lane x (some k) .unverified)]
      (enter x (some k) (emptiedQueue x (displaced x e [] s))) := by
  have cleared := displace_eq (pre := []) (post := []) (slot := some k) only nofun (.inl ⟨rfl, he, Nat.zero_le 3⟩)
  have emptied : settle x (!(s.cross x).zone.isEmpty)
      (emit [.notice (.lane x e.slot .unverified)] (displaced x e [] s)) =
      emptiedQueue x (emit [.notice (.lane x e.slot .unverified)] (displaced x e [] s)) := by
    refine if_pos ?_
    simp [only, displaced, Crossover.passed]
  rw [takeApproach_eq, cleared, List.append_nil, emptied, emit_emptiedQueue, emit_enter, he]

/-! ### The new entry at a record just replaced -/

variable {slot : Option SlotNo} {wished : Bool}

theorem approachWished_setCross (x : CrossNo) (c : Crossover) :
    approachWished slot (s.setCross x c) = approachWished slot s := by cases slot <;> rfl

/-- The new entry decided by a row of Table 5-4 (R75, R76). -/
theorem enter_row {row : CrossState × Decision × CrossState} (hrow : row ∈ approachRows) (h : c.state = row.1)
    (hw : approachWished slot s = wished) : enter x slot (s.setCross x c) =
      s.setCross x (c.entering slot wished (if wished then row.2.1 else .none) row.2.2 s) := by
  have active := (approachDecision_row hrow h false wished).2.1
  rw [enter_active (by rwa [cross_setCross_self]),
    appendEntry_row hrow (cross_setCross_self s x c) h ((approachWished_setCross x c).trans hw), setCross_setCross]
  rfl

/-- The new entry decided as OPEN does (R74). -/
theorem enter_opened (opened : c.state = .opened) (hw : approachWished slot s = wished) :
    (wished = false →
      enter x slot (s.setCross x c) = s.setCross x (c.entering slot wished .none .passing s)) ∧
    (wished = true → c.guardRunning = true →
      enter x slot (s.setCross x c) = s.setCross x (c.entering slot wished (.denied .guarded) .passing s)) ∧
    (wished = true → c.guardRunning = false → 8 ≤ s.commands.length →
      enter x slot (s.setCross x c) = s.setCross x (c.entering slot wished (.denied .queue) .passing s)) ∧
    (wished = true → c.guardRunning = false → s.commands.length < 8 →
      enter x slot (s.setCross x c) =
        ({ s with commands := s.commands ++ [(⟨x, .throwing, c.config.pulse⟩ : SectionCommand)] }.setCross x
          { c.entering slot wished .honored .throwing s with status := .queued .throwing })) := by
  obtain ⟨unwished, guarded, full, room⟩ := appendEntry_opened (cross_setCross_self s x c) opened
    ((approachWished_setCross x c).trans hw)
  rw [enter_active (by rw [cross_setCross_self, opened]; rfl)]
  refine ⟨fun h => (unwished h).trans (setCross_setCross ..), fun h hg => (guarded h hg).trans (setCross_setCross ..),
    fun h hg hf => (full h hg hf).trans (setCross_setCross ..), fun h hg hr => (room h hg hr).trans ?_⟩
  simp only [State.setCross, Vector.set_set]
  rfl

/-- The approach is dropped where the rule took the crossover out of service (R72 ③). -/
theorem enter_disabled (h : c.state = .disabled) : enter x slot (s.setCross x c) = s.setCross x c :=
  enter_dropped (by rw [cross_setCross_self, h]; rfl)

/-- In an empty zone the new entry stands alone, and the state is the one decided. -/
theorem entering_empty {state next : CrossState} {decision : Decision} (empty : c.zone = []) (same : c.state = next) :
    Crossover.entering { c with state := state } slot wished decision next s =
      { c with zone := [⟨slot, wished, decision, s.time, s.after c.config.clear⟩] } := by
  subst same
  rw [Crossover.entering, empty]
  rfl

/-- Settles O46: the emptied-queue rule says at which record the new entry is made, and Table 5-4 decides it there. -/
theorem approachAfterDisplacingTheOnlyEntry : Obligations.ApproachAfterDisplacingTheOnlyEntry := by
  unfold Obligations.ApproachAfterDisplacingTheOnlyEntry
  intro s x p w k c gone e wished entered beacons good measures quiet hc only he hw hgone hentered ends
  have ends_of {queue : List SectionCommand} {c' : Crossover} (active : c.state.active = true)
      (effect : enter x (some k) (emptiedQueue x (s.reportTaken.setCross x gone)) =
        { s.reportTaken with commands := queue }.setCross x c') : ends queue c' := by
    have start : displaced x e [] s.reportTaken = s.reportTaken.setCross x gone := by rw [hgone, hc]; rfl
    have active : (s.cross x).state.active = true := hc ▸ active
    change exec (.sighting x 0 p w) s = _
    rw [sighting_approach beacons good measures quiet active,
      takeApproach_displacing_only (s := s.reportTaken) (hc ▸ only) he, start, effect]
  have wish : approachWished (some k) s.reportTaken = wished := hw.symm
  have state : gone.state = c.state := by rw [hgone]; rfl
  have empty : gone.zone = [] := by rw [hgone]; rfl
  have pulse : gone.config = c.config := by rw [hgone]; rfl
  refine ⟨fun b passing hb => ?passing, fun g passing hg off => ?dropped, fun diverted guard => ?holding,
    fun diverted elapsed room => ?returning, fun diverted elapsed full => ?owed, fun row hrow hstate => ?stays,
    fun fault enabled => ?fault, fun fault disabled => ?disabled⟩
  case passing =>
    have active : c.state.active = true := by rw [passing]; rfl
    obtain ⟨settled, still, vacant⟩ : emptiedQueue x (s.reportTaken.setCross x gone) =
        s.reportTaken.setCross x { b with state := .opened } ∧ b.state = .passing ∧ b.zone = [] := by
      have staged : gone.staged = c.staged := by rw [hgone]; rfl
      rcases hb with ⟨plain, rfl⟩ | ⟨g, hg, on, rfl⟩
      · exact ⟨emptied_passing _ (state.trans passing) (staged.trans plain), state.trans passing, empty⟩
      · refine ⟨?_, state.trans passing, empty⟩
        rw [emptied_staged _ (state.trans passing) (staged.trans hg), on, hgone]
        rfl
    obtain ⟨unwished, guarded, full, room⟩ := enter_opened (s := s.reportTaken) (x := x) (slot := some k)
      (c := { b with state := .opened }) rfl wish
    simp only [hentered]
    refine ⟨fun h => ends_of active ?_, fun h hg => ends_of active ?_, fun h hg hf => ends_of active ?_,
      fun h hg hr => ends_of active ?_⟩
    · rw [settled, unwished h, entering_empty vacant still]
      rfl
    · rw [settled, guarded h hg, entering_empty vacant still]
      rfl
    · rw [settled, full h hg hf, entering_empty vacant still]
      rfl
    · rw [settled, room h hg hr, Crossover.entering, vacant]
      rfl
  case dropped =>
    have staged : gone.staged = some g := by rw [hgone]; exact hg
    refine ends_of (by rw [passing]; rfl) ?_
    rw [emptied_staged _ (state.trans passing) staged, enter_disabled (by rw [off]; rfl), off, hgone]
    rfl
  case holding =>
    have running : gone.guardRunning = true := by rw [hgone]; exact guard
    refine ends_of (by rw [diverted]; rfl) ?_
    rw [emptied_guarded _ (state.trans diverted) running,
      enter_row (row := (.holding, .honored, .diverted)) (by simp [approachRows]) rfl wish,
      entering_empty empty (state.trans diverted), hentered]
    rfl
  case returning =>
    have stopped : gone.guardRunning = false := by rw [hgone]; exact elapsed
    refine ends_of (by rw [diverted]; rfl) ?_
    rw [emptied_room s.reportTaken (state.trans diverted) stopped room]
    refine (enter_row (s := { s.reportTaken with commands := s.commands ++ [⟨x, .returning, gone.config.pulse⟩] })
      (row := (.returning, .denied .guarded, .returning)) (by simp [approachRows]) rfl wish).trans ?_
    rw [hentered, Crossover.entering, empty, pulse]
    rfl
  case owed =>
    have stopped : gone.guardRunning = false := by rw [hgone]; exact elapsed
    refine ends_of (by rw [diverted]; rfl) ?_
    rw [emptied_full s.reportTaken (state.trans diverted) stopped full,
      enter_row (row := (.returning, .denied .guarded, .returning)) (by simp [approachRows]) rfl wish, hentered,
      Crossover.entering, empty, pulse]
    rfl
  case stays =>
    obtain ⟨mem, unmoved⟩ : (row.1, row.2, row.1) ∈ approachRows ∧ (row.1 = .throwing ∨ row.1 = .returning) := by
      simp only [List.mem_cons, List.not_mem_nil, or_false] at hrow
      rcases hrow with rfl | rfl <;> simp [approachRows]
    have kept : gone.state = row.1 := state.trans hstate
    refine ends_of (approachDecision_row mem hstate false wished).2.1 ?_
    rw [emptied_stays _ (by rwa [kept]), enter_row mem kept wish, hentered, Crossover.entering, empty, ← kept]
    rfl
  case fault =>
    have on : gone.config.enabled = true := by rw [pulse]; exact enabled
    refine ends_of (by rw [fault]; rfl) ?_
    rw [emptied_fault _ (state.trans fault), on,
      enter_row (row := (.fault, .denied .fault, .fault)) (by simp [approachRows]) rfl wish,
      entering_empty empty (state.trans fault), hentered]
    rfl
  case disabled =>
    have off : gone.config.enabled = false := by rw [pulse]; exact disabled
    refine ends_of (by rw [fault]; rfl) ?_
    rw [emptied_fault _ (state.trans fault), off, enter_disabled rfl]
    rfl

end Sys2Proof.Machine
end

section
/-! Entries removed by an UNKNOWN exit or their clear deadline, and the last entry removed (R78 to R88). -/

namespace Sys2Proof.Machine

variable {s : State} {x : CrossNo} {e : ZoneEntry} {rest : List ZoneEntry}

/-- A sighting from an exit sensor at an active crossover that does nothing to pairing is an exit. -/
theorem sighting_exit {sensor : ExitSensor} {p w : Byte} {slot : Option SlotNo} (good : GoodMeasurement p w)
    (classified : classify s ⟨p.toNat, w.toNat⟩ = slot) (quiet : NoPairing s slot)
    (active : (s.cross x).state.active = true) :
    exec (.sighting x sensor.code p w) s = .next (takeExit x sensor slot s.reportTaken) := by
  rw [sighting_of_noPairing s (sensorArg_code sensor) good classified quiet]
  exact congrArg _ (if_pos active)

/-- A clear deadline that has been reached removes its entry (R83). -/
theorem exec_clearDeadlineExpiry {i : Fin 4} (he : (s.cross x).zone[i.val]? = some e)
    (due : (s.time - e.clearDeadline).toNat < 2 ^ 31) : exec (.clearDeadlineExpiry x i) s =
      .next (removeEntry x e ((s.cross x).zone.eraseIdx i.val) .lostInZone none s) := by
  simp only [exec, execClearDeadlineExpiry, he, if_pos (reached_iff.mpr due)]

/-- With entries left a removal is the passage alone (R81). -/
theorem removeEntry_left (left : rest ≠ []) (outcome : PassageOutcome) (exit : Option (Time × ExitSensor)) :
    removeEntry x e rest outcome exit s = completePassage x e rest outcome exit s :=
  if_neg (by simpa using left)

/-- Settles O48: each removal is a passage that is neither CHANGED nor STAYED. -/
theorem unknownExitAndClearDeadlineRemove : Obligations.UnknownExitAndClearDeadlineRemove := by
  unfold Obligations.UnknownExitAndClearDeadlineRemove
  rintro s x c rfl
  refine ⟨fun p w sensor good unknown enabled lit => ?exit, fun i e he several due => ?deadline⟩
  case exit =>
    have taken : exec (.sighting x sensor.code p w) s = .next (takeExit x sensor none s.reportTaken) :=
      sighting_exit good (classify_none unknown) nofun (active_of_ne enabled lit)
    refine ⟨fun empty => ?_, fun e rest hz left => ?_⟩
    · have ignored : takeExit x sensor none s.reportTaken = s.reportTaken := by
        have empty : (s.reportTaken.cross x).zone = [] := empty
        simp only [takeExit, empty]
      rw [taken, ignored]
    · have head : takeExit x sensor none s.reportTaken =
          removeEntry x e rest .unverified (some (s.time, sensor)) s.reportTaken := by
        have hz : (s.reportTaken.cross x).zone = e :: rest := hz
        simp only [takeExit, hz]
      rw [taken, head, removeEntry_left left, completePassage_unchanged _ _ _ _ _ (by decide) (by decide)]
      rfl
  case deadline =>
    have left : (s.cross x).zone.eraseIdx i.val ≠ [] := by
      obtain ⟨within, -⟩ := List.getElem?_eq_some_iff.mp he
      refine List.ne_nil_of_length_pos ?_
      rw [List.length_eraseIdx_of_lt within]
      omega
    rw [exec_clearDeadlineExpiry he due, removeEntry_left left,
      completePassage_unchanged _ _ _ _ _ (by decide) (by decide)]

/-! ### The last entry removed (R85) -/

/-- The last entry removed: the emptied-queue rule at the record that the passage leaves (R81, R85). -/
theorem removeEntry_last {t base : State} {gone : Crossover} {outcome : PassageOutcome}
    {exit : Option (Time × ExitSensor)} {outs : List Output}
    (passed : completePassage x e [] outcome exit t = emit outs (base.setCross x gone)) :
    removeEntry x e [] outcome exit t = emit outs (emptiedQueue x (base.setCross x gone)) := by
  rw [removeEntry, passed]
  exact emit_emptiedQueue _ outs x

/-- A passage that is not CHANGED touches no slot (R25). -/
theorem completePassage_unjudged {outcome : PassageOutcome} (exit : Option (Time × ExitSensor))
    (unchanged : outcome ≠ .changed) : completePassage x e rest outcome exit s =
      emit (if outcome = .stayed then [] else [.notice (.lane x e.slot outcome)])
        (s.setCross x ((s.cross x).passed rest (e.record outcome exit))) := by
  rw [completePassage_eq]
  simp only [if_neg unchanged]

/-- Settles O49: each of the three removals is a passage and then the emptied-queue rule, by its row. -/
theorem emptiedZoneMovesTheCrossover : Obligations.EmptiedZoneMovesTheCrossover := by
  unfold Obligations.EmptiedZoneMovesTheCrossover
  intro s base x c gone e removal outcome exit hc only hgone removed ends
  have removes (active : c.state.active = true) : exec removal s = .next (emit
      (if outcome = .stayed then [] else [.notice (.lane x e.slot outcome)])
      (emptiedQueue x (base.setCross x gone))) := by
    subst hc hgone
    rcases removed with ⟨rfl, due, rfl, rfl, rfl⟩ |
      ⟨sensor, p, w, rfl, good, rfl, ⟨unknown, rfl, rfl⟩ | ⟨k, beacons, measures, quiet, he, judged, rfl⟩⟩
    · rw [exec_clearDeadlineExpiry (e := e) (by rw [only]; rfl) due, only]
      exact congrArg _ (removeEntry_last (completePassage_unjudged none (by decide)))
    · have only : (s.reportTaken.cross x).zone = [e] := only
      rw [sighting_exit good (classify_none unknown) nofun active]
      simp only [takeExit, only]
      exact congrArg _ (removeEntry_last (completePassage_unjudged _ (by decide)))
    · obtain ⟨found, left⟩ := find_slot (zone := (s.reportTaken.cross x).zone) (pre := []) (post := []) only he nofun
      rw [sighting_exit good (classify_of_measures beacons measures) quiet active]
      simp only [takeExit, found, left]
      have judged : outcome = exitOutcome e sensor := by
        rw [judged]
        unfold exitOutcome
        cases sensor <;> cases e.decision <;> rfl
      rw [← judged]
      refine congrArg _ (removeEntry_last ?_)
      rw [completePassage_classified s.reportTaken x he, he]
      rfl
  have commands : base.commands = s.commands ∧ base.time = s.time := by
    rcases removed with ⟨-, -, -, -, rfl⟩ | ⟨_, _, _, -, -, -, ⟨-, -, rfl⟩ | ⟨_, -, -, -, -, -, rfl⟩⟩ <;>
      exact ⟨rfl, rfl⟩
  obtain ⟨commands, time⟩ := commands
  have ends_of {queue : List SectionCommand} {c' : Crossover} (active : c.state.active = true)
      (effect : emptiedQueue x (base.setCross x gone) = { base with commands := queue }.setCross x c') :
      ends queue c' := by
    change exec removal s = _
    rw [removes active, effect]
  have stays {c' : Crossover} (active : c.state.active = true)
      (effect : emptiedQueue x (base.setCross x gone) = base.setCross x c') : ends s.commands c' :=
    ends_of active (by rw [effect, ← commands])
  have state : gone.state = c.state := by rw [hgone]; rfl
  have staged : gone.staged = c.staged := by rw [hgone]; rfl
  have config : gone.config = c.config := by rw [hgone]; rfl
  have guard : gone.guardRunning = c.guardRunning := by rw [hgone]; rfl
  have settled : gone.settled = c.settled := by rw [hgone]; rfl
  refine ⟨fun passing plain => ?opened, fun g passing hg => ?applied, fun diverted running => ?holding,
    fun diverted elapsed room => ?returning, fun diverted elapsed full => ?owed, fun unmoved => ?stays,
    fun fault => ?fault⟩
  case opened =>
    exact stays (by rw [passing]; rfl) (emptied_passing base (state.trans passing) (staged.trans plain))
  case applied =>
    refine stays (by rw [passing]; rfl) ?_
    rw [emptied_staged base (state.trans passing) (staged.trans hg), Crossover.applied, settled, time]
  case holding =>
    exact stays (by rw [diverted]; rfl) (emptied_guarded base (state.trans diverted) (guard.trans running))
  case returning =>
    refine ends_of (by rw [diverted]; rfl) ?_
    rw [emptied_room base (state.trans diverted) (guard.trans elapsed) (commands ▸ room), commands, config]
  case owed =>
    refine stays (by rw [diverted]; rfl) ?_
    rw [emptied_full base (state.trans diverted) (guard.trans elapsed) (commands ▸ full), config]
  case stays =>
    exact stays (by rcases unmoved with h | h <;> rw [h] <;> rfl) (emptied_stays base (by rwa [state]))
  case fault =>
    refine stays (by rw [fault]; rfl) ?_
    rw [emptied_fault base (state.trans fault), config]

end Sys2Proof.Machine
end

section
/-! READ-CROSSOVER: the bytes of a configuration, a zone entry and a passage record, and the reply of three parts
(R87, R160, Table 12-11). -/

namespace Sys2Proof.Machine

/-! ### Bytes of stated and free bits -/

/-- A bit of a byte, as a field of width 1. -/
theorem getLsbD_eq_div (b : Byte) (i : Nat) : b.getLsbD i = decide (b.toNat / 2 ^ i % 2 = 1) :=
  Nat.testBit_eq_decide_div_mod_eq

/-- A bit outside the mask is the stated one. -/
theorem fillBits_getLsbD {mask : Byte} {i : Nat} (stated free : Byte) (assigned : mask.getLsbD i = false) :
    (fillBits mask stated free).getLsbD i = stated.getLsbD i := by
  rcases Nat.lt_or_ge i 8 with hi | hi
  · rw [fillBits, BitVec.getLsbD_or, BitVec.getLsbD_and, BitVec.getLsbD_and, BitVec.getLsbD_not, assigned]
    simp [hi]
  · rw [BitVec.getLsbD_of_ge _ _ hi, BitVec.getLsbD_of_ge _ _ hi]

/-- A field outside the mask is the stated one. -/
theorem fillBits_field {mask : Byte} {start width : Nat} (stated free : Byte)
    (assigned : ∀ i < start + width, start ≤ i → mask.getLsbD i = false) :
    (fillBits mask stated free).toNat / 2 ^ start % 2 ^ width = stated.toNat / 2 ^ start % 2 ^ width := by
  refine Nat.eq_of_testBit_eq fun i => ?_
  rw [Nat.testBit_mod_two_pow, Nat.testBit_mod_two_pow, Nat.testBit_div_two_pow, Nat.testBit_div_two_pow]
  by_cases hi : i < width
  · have same := fillBits_getLsbD stated free (assigned (i + start) (by omega) (by omega))
    rw [BitVec.getLsbD, BitVec.getLsbD] at same
    rw [same]
  · simp [hi]

/-! ### A configuration (Table 12-11 note 1) -/

theorem configBytes_say (free : Byte) {g : CrossConfig} (ok : ConfigOk g) : ConfigBytes (configBytes free g) g := by
  obtain ⟨⟨-, pulse⟩, -⟩ := ok
  have enable := Bool.toNat_le g.enabled
  have stated : (byte (128 * g.enabled.toNat + g.pulse)).toNat = 128 * g.enabled.toNat + g.pulse :=
    byte_toNat (by omega)
  refine ⟨_, rfl, ?enabled, ?pulse⟩
  case enabled =>
    rw [fillBits_getLsbD _ _ (by decide), getLsbD_eq_div, stated]
    cases g.enabled <;> simp <;> omega
  case pulse =>
    have field := fillBits_field (mask := 0x40) (start := 0) (width := 6)
      (byte (128 * g.enabled.toNat + g.pulse)) free (by decide)
    rw [stated] at field
    simp only [Nat.pow_zero, Nat.div_one] at field
    omega

/-- The staged configuration, all 0 where there is none. -/
def stagedBytes (free : Byte) : Option CrossConfig → List Byte
  | some g => configBytes free g
  | none => [0, 0, 0, 0, 0]

theorem crossPart1_eq (u : Nat → Byte) (now : Time) (c : Crossover) : crossPart1 u now c =
    [crossStateByte (u 0) c] ++ configBytes (u 1) c.config ++ stagedBytes (u 6) c.staged
      ++ [byte (confirmRemaining now c.status)] ++ bytes32 c.settled.toNat ++ [byte c.zone.length] := rfl

/-! ### The state byte -/

theorem CrossState.code_le (c : CrossState) : c.code ≤ 8 := by cases c <;> decide

theorem CommandStatus.code_le (c : CommandStatus) : c.code ≤ 3 := by
  cases c <;> simp [CommandStatus.code]

/-- The fields of byte 0 of part 1: state, command status and staged present, in free bits or stated ones. -/
theorem crossStateByte_fields (free : Byte) (c : Crossover) :
    (crossStateByte free c).toNat % 16 = c.state.code ∧ (crossStateByte free c).toNat / 16 % 4 = c.status.code ∧
      (crossStateByte free c).getLsbD 7 = c.staged.isSome := by
  have state := c.state.code_le
  have status := c.status.code_le
  have staged : c.staged.isSome = decide (c.staged.isSome.toNat = 1) := by cases c.staged.isSome <;> rfl
  have present := Bool.toNat_le c.staged.isSome
  rw [staged, getLsbD_eq_div]
  unfold crossStateByte
  generalize hn : c.state.code + 16 * c.status.code + 128 * c.staged.isSome.toNat = n
  have stated : (byte n).toNat = n := byte_toNat (by omega)
  cases c.status.kind with
  | none =>
    have low := fillBits_field (mask := 0x40) (start := 0) (width := 4) (byte n) free (by decide)
    have mid := fillBits_field (mask := 0x40) (start := 4) (width := 2) (byte n) free (by decide)
    have high := fillBits_field (mask := 0x40) (start := 7) (width := 1) (byte n) free (by decide)
    simp only [stated, Nat.pow_zero, Nat.div_one, Nat.pow_one, Nat.reducePow] at low mid high
    dsimp only
    refine ⟨by omega, by omega, decide_eq_decide.mpr ?_⟩
    omega
  | some kind =>
    cases kind with
    | throwing =>
      dsimp only
      rw [stated]
      refine ⟨by omega, by omega, decide_eq_decide.mpr ?_⟩
      omega
    | returning =>
      dsimp only
      rw [byte_toNat (by omega)]
      refine ⟨by omega, by omega, decide_eq_decide.mpr ?_⟩
      omega

/-- Bit 6 of byte 0 is set for a RETURN, which alone can be OWED, and clear for a THROW (R91). -/
theorem crossStateByte_kind (free : Byte) {c : Crossover} (commanded : c.status ≠ .none) :
    (crossStateByte free c).getLsbD 6 = true ↔ c.status.outstanding ≠ some .throwing := by
  have state := c.state.code_le
  have status := c.status.code_le
  have present := Bool.toNat_le c.staged.isSome
  have kind : c.status.outstanding = some .throwing ↔ c.status.kind = some .throwing := by
    cases c.status <;> simp [CommandStatus.outstanding, CommandStatus.kind]
  rw [ne_eq, kind, crossStateByte, getLsbD_eq_div, decide_eq_true_iff]
  cases h : c.status.kind with
  | none =>
    refine absurd ?_ commanded
    cases hs : c.status <;> simp [hs, CommandStatus.kind] at h ⊢
  | some kind =>
    cases kind with
    | throwing =>
      dsimp only
      rw [byte_toNat (by omega)]
      exact iff_of_false (by omega) (by simp)
    | returning =>
      dsimp only
      rw [byte_toNat (by omega)]
      exact iff_of_true (by omega) (by simp)

/-! ### Passage records (Table 12-11 note 2) -/

/-- The four stated flags of a passage record. -/
theorem passageFlags (new exit isXd : Bool) : let flags := byteOfBits [true, new, exit, isXd]
    flags.getLsbD 0 = true ∧ flags.getLsbD 1 = new ∧ flags.getLsbD 2 = exit ∧ flags.getLsbD 3 = isXd := by
  cases new <;> cases exit <;> cases isXd <;> decide

/-- The bits of the flags that the table assigns to LAST and to PREVIOUS. -/
theorem passageFreeMask_assigned (isLast : Bool) : (passageFreeMask isLast).getLsbD 0 = false ∧
    (passageFreeMask isLast).getLsbD 2 = false ∧ (passageFreeMask isLast).getLsbD 3 = false := by
  cases isLast <;> decide

/-- Whether a passage left by XD. -/
def leftByXd : Option (Time × ExitSensor) → Bool
  | some (_, .xd) => true
  | some (_, .xs) | none => false

theorem leftByXd_iff {exit : Option (Time × ExitSensor)} :
    leftByXd exit = true ↔ ∃ time, exit = some (time, .xd) := by
  rcases exit with _ | ⟨time, _ | _⟩ <;> simp [leftByXd]

/-- The exit time of a passage record, free where there was no exit. -/
def exitBytes (u : Nat → Byte) : Option (Time × ExitSensor) → List Byte
  | some (time, _) => bytes16 (time.toNat % 65536)
  | none => [u 5, u 6]

theorem exitBytes_two (u : Nat → Byte) (exit : Option (Time × ExitSensor)) : ∃ x y, exitBytes u exit = [x, y] := by
  cases exit <;> exact ⟨_, _, rfl⟩

theorem passageBytes_some (u : Nat → Byte) (isLast new : Bool) (p : Passage) :
    passageBytes u isLast new (some p) =
      [carByte p.slot p.decision p.wished, byte p.outcome.code,
        fillBits (passageFreeMask isLast) (byteOfBits [true, new, p.exit.isSome, leftByXd p.exit]) (u 2)]
        ++ bytes16 (p.approach.toNat % 65536) ++ exitBytes u p.exit := rfl

/-- LAST says its new flag and PREVIOUS does not. -/
theorem passageBytes_say (u : Nat → Byte) (isLast new : Bool) (p : Option Passage) :
    PassageBytes (passageBytes u isLast new p) (if isLast then some new else none) p := by
  cases p with
  | none => rfl
  | some p =>
    obtain ⟨present, fresh, exit, toXd⟩ := passageFlags new p.exit.isSome (leftByXd p.exit)
    obtain ⟨free0, free2, free3⟩ := passageFreeMask_assigned isLast
    obtain ⟨x, y, hxy⟩ := exitBytes_two u p.exit
    rw [passageBytes_some]
    refine ⟨_, x, y, congrArg (_ ++ ·) hxy, ?_, fun n hn => ?_, ?_, ?_, fun time sensor he => ?_⟩
    · exact (fillBits_getLsbD _ _ free0).trans present
    · cases isLast with
      | false => exact absurd hn nofun
      | true => exact ((fillBits_getLsbD _ _ (by decide)).trans fresh).trans (Option.some.inj hn)
    · exact (fillBits_getLsbD _ _ free2).trans exit
    · rw [fillBits_getLsbD _ _ free3, toXd]
      exact leftByXd_iff
    · rw [← hxy, he]
      rfl

/-! ### Zone entries (Table 12-11 part 2) -/

theorem zoneBytes_length (now : Time) (e : ZoneEntry) : (zoneBytes now e).length = 5 := rfl

/-- Part 2 says every entry of a zone of at most four, oldest first. -/
theorem crossPart2_eq (now : Time) {c : Crossover} (four : c.zone.length ≤ 4) : crossPart2 now c =
    (c.zone.map fun e => zoneSlotBytes e (remaining now e.clearDeadline)).flatten ++
      List.replicate (20 - 5 * c.zone.length) 0 := by
  have length (zone : List ZoneEntry) : (zone.flatMap (zoneBytes now)).length = 5 * zone.length := by
    induction zone with
    | nil => rfl
    | cons e rest ih => rw [List.flatMap_cons, List.length_append, ih, zoneBytes_length, List.length_cons]; omega
  simp only [crossPart2, List.take_of_length_le four, length]
  rfl

/-! ### The reply -/

/-- Settles O20: the reply's parts are the bytes above, and after them LAST's new flag is cleared. -/
theorem readCrossoverReportsTheRecord : Obligations.ReadCrossoverReportsTheRecord := by
  unfold Obligations.ReadCrossoverReportsTheRecord
  intro s tag x room ranges inv
  obtain ⟨config, staged, -⟩ := crossOk_of_rangeInv ranges x
  obtain ⟨four, -⟩ := (fitsAt_of_crossInv inv x).zone
  have taken : exec (.readCrossover tag [byte x.val]) s = .next (readCross tag x s.handTaken) :=
    request_taken room (by simp only [readCrossoverRequest, crossArg_byte])
  obtain ⟨state, status, present⟩ := crossStateByte_fields (freeBits s 0) (s.cross x)
  refine ⟨crossStateByte (freeBits s 0) (s.cross x), configBytes (freeBits s 1) (s.cross x).config,
    stagedBytes (freeBits s 6) (s.cross x).staged, crossPart2 s.time (s.cross x),
    passageBytes (fun i => freeBits s (32 + i)) true (s.cross x).lastNew (s.cross x).last,
    passageBytes (fun i => freeBits s (39 + i)) false false (s.cross x).previous, ?reply, ?state, ?status,
    crossStateByte_kind _, present, configBytes_say _ config, ?unstaged, ?staged, crossPart2_eq s.time four,
    passageBytes_say _ true _ _, passageBytes_say _ false false _⟩
  case reply =>
    rw [taken, readCross, crossPart1_eq]
    rfl
  case state =>
    rw [state]
    cases (s.cross x).state <;> rfl
  case status =>
    rw [status]
    cases (s.cross x).status <;> rfl
  case unstaged =>
    intro h
    rw [h]
    rfl
  case staged =>
    intro g hg
    rw [hg]
    exact configBytes_say _ (staged g hg)

end Sys2Proof.Machine
end

section
/-! The diverter: RETURNs decided by CROSSOVER-CLEAR and an elapsed guard, and the POSITION reports of Table 6-2 (R92 to
R102). -/

namespace Sys2Proof.Machine

variable (s : State) {x : CrossNo} {c : Crossover}

/-! ### A RETURN decided at a record just replaced (R95, R96) -/

theorem decideReturn_setCross_room (room : s.commands.length < 8) : decideReturn x (s.setCross x c) =
    ({ s with commands := s.commands ++ [(⟨x, .returning, c.config.pulse⟩ : SectionCommand)] }.setCross x
      { c with state := .returning, status := .queued .returning }) := by
  rw [decideReturn_room (s.setCross x c) x room, cross_setCross_self]
  simp only [State.setCross, Vector.set_set]

theorem decideReturn_setCross_full (full : 8 ≤ s.commands.length) : decideReturn x (s.setCross x c) =
    s.setCross x { c with state := .returning, status := .owed c.config.pulse } := by
  rw [decideReturn_full (s.setCross x c) x full, cross_setCross_self, setCross_setCross]

/-! ### CROSSOVER-CLEAR and GUARD_ELAPSE (R92, R95, R100) -/

variable {s}

theorem crossoverClearRequest_returns (tag : Byte) (fault : (s.cross x).state = .fault)
    (empty : (s.cross x).zone = []) :
    crossoverClearRequest tag [byte x.val] s = emit [okReply tag 0x41 []] (decideReturn x s) := by
  simp [crossoverClearRequest, fault, empty, answer_eq]

/-- A running guard whose dead time has passed elapses (R92; log entry 10). -/
theorem exec_guardElapse (running : (s.cross x).guardRunning = true)
    (passed : (s.cross x).config.dead ≤ (s.time - (s.cross x).settled).toNat) :
    exec (.guardElapse x) s = .next (elapseGuard x s) := by
  have elapses : ((s.cross x).guardRunning &&
      deadTimePassed s.time (s.cross x).settled (s.cross x).config.dead) = true := by
    simp only [running, deadTimePassed, decide_eq_true passed, Bool.and_self]
  exact congrArg Host.Outcome.next (if_pos elapses)

theorem elapseGuard_holding (holding : (s.cross x).state = .holding) :
    elapseGuard x s = decideReturn x (s.setCross x { s.cross x with guardRunning := false }) := if_pos holding

theorem elapseGuard_elsewhere (elsewhere : (s.cross x).state ≠ .holding) :
    elapseGuard x s = s.setCross x { s.cross x with guardRunning := false } := if_neg elsewhere

/-- Settles O28: CROSSOVER-CLEAR and an elapsed guard in HOLDING decide a RETURN, by the room in the command queue. -/
theorem returnsAreDecided : Obligations.ReturnsAreDecided := by
  unfold Obligations.ReturnsAreDecided
  refine ⟨?clear, ?guard⟩
  case clear =>
    rintro s tag x _ reply rfl fault empty
    have cleared := request_taken reply (crossoverClearRequest_returns (s := s.handTaken) tag fault empty)
    refine ⟨fun room => ?_, fun full => ?_⟩
    · rw [decideReturn_room s.handTaken x room] at cleared
      exact cleared
    · rw [decideReturn_full s.handTaken x full] at cleared
      exact cleared
  case guard =>
    rintro s x _ rfl running passed
    rw [exec_guardElapse running passed]
    refine ⟨fun elsewhere => ?_, fun holding room => ?_, fun holding full => ?_⟩
    · rw [elapseGuard_elsewhere elsewhere]
    · rw [elapseGuard_holding holding, decideReturn_setCross_room s room]
    · rw [elapseGuard_holding holding, decideReturn_setCross_full s full]

/-! ### What a POSITION report comes to (R93, R97, R98, Table 6-2) -/

/-- The report agrees with the crossover's state, or the part does not watch the diverter there (R98). -/
def Crossover.Agrees (c : Crossover) (pos : Position) : Prop :=
  c.state = .disabled ∨ c.state = .fault ∨ c.state = .dark ∨
    ((c.state = .opened ∨ c.state = .passing) ∧ pos = .straight) ∨
    ((c.state = .diverted ∨ c.state = .holding) ∧ pos = .divert)

/-- The report contradicts the crossover's state: the other position, or one that confirms no SENT command (R93, R97,
R98). -/
def Crossover.Contradicts (c : Crossover) (pos : Position) : Prop :=
  ((c.state = .opened ∨ c.state = .passing) ∧ pos = .divert) ∨
    ((c.state = .diverted ∨ c.state = .holding) ∧ pos = .straight) ∨
    (c.state = .throwing ∧ (pos = .straight ∨ ∀ kind d, c.status ≠ .sent kind d)) ∨
    (c.state = .returning ∧ (pos = .divert ∨ ∀ kind d, c.status ≠ .sent kind d))

theorem takePosition_agrees {pos : Position} (agrees : (s.cross x).Agrees pos) : takePosition x pos s = s := by
  rcases agrees with h | h | h | ⟨h | h, rfl⟩ | ⟨h | h, rfl⟩ <;> simp only [takePosition, h]

theorem takePosition_contradicts {pos : Position} (contradicts : (s.cross x).Contradicts pos) :
    takePosition x pos s = enterFault x .wrongPosition s := by
  rcases contradicts with ⟨h | h, rfl⟩ | ⟨h | h, rfl⟩ | ⟨h, rfl | unsent⟩ | ⟨h, rfl | unsent⟩
  case inl.inl | inl.inr | inr.inl.inl | inr.inl.inr => simp only [takePosition, h]
  case inr.inr.inl.inl | inr.inr.inr.inl =>
    simp only [takePosition, h]
    cases (s.cross x).status <;> rfl
  case inr.inr.inl.inr | inr.inr.inr.inr =>
    simp only [takePosition, h]
    split
    · exact absurd ‹_› (unsent _ _)
    · rfl

/-- A report agrees, contradicts, or confirms a SENT command (Table 6-2). -/
theorem position_decided (c : Crossover) (pos : Position) : c.Agrees pos ∨ c.Contradicts pos ∨
    ∃ kind deadline, c.status = .sent kind deadline ∧
      ((c.state = .throwing ∧ pos = .divert) ∨ (c.state = .returning ∧ pos = .straight)) := by
  cases h : c.state with
  | disabled | fault | dark => exact .inl (by simp [Crossover.Agrees, h])
  | opened | passing =>
    cases pos with
    | straight => exact .inl (by simp [Crossover.Agrees, h])
    | divert => exact .inr (.inl (by simp [Crossover.Contradicts, h]))
  | diverted | holding =>
    cases pos with
    | straight => exact .inr (.inl (by simp [Crossover.Contradicts, h]))
    | divert => exact .inl (by simp [Crossover.Agrees, h])
  | throwing =>
    cases pos with
    | straight => exact .inr (.inl (by simp [Crossover.Contradicts, h]))
    | divert =>
      by_cases sent : ∃ kind deadline, c.status = .sent kind deadline
      · simp [sent]
      · exact .inr (.inl (.inr (.inr (.inl ⟨h, .inr fun kind d hs => sent ⟨kind, d, hs⟩⟩))))
  | returning =>
    cases pos with
    | straight =>
      by_cases sent : ∃ kind deadline, c.status = .sent kind deadline
      · simp [sent]
      · exact .inr (.inl (.inr (.inr (.inr ⟨h, .inr fun kind d hs => sent ⟨kind, d, hs⟩⟩))))
    | divert => exact .inr (.inl (by simp [Crossover.Contradicts, h]))

/-- Settles O51: a report that agrees is ignored, and one that contradicts is a FAULT, as a confirm deadline reached
is. -/
theorem diverterFailureIsAFault : Obligations.DiverterFailureIsAFault := by
  unfold Obligations.DiverterFailureIsAFault
  rintro s x _ pos rfl
  refine ⟨fun agrees => ?ignored, fun unqueued contradicts => ?wrong, fun kind deadline sent due => ?late⟩
  case ignored => exact congrArg Host.Outcome.next (takePosition_agrees (s := s.reportTaken) agrees)
  case wrong =>
    exact congrArg Host.Outcome.next ((takePosition_contradicts (s := s.reportTaken) contradicts).trans
      (enterFault_unqueued s.reportTaken x .wrongPosition unqueued))
  case late =>
    simp only [exec, execConfirmDeadlineExpiry, sent, if_pos (reached_iff.mpr due)]
    rw [enterFault_unqueued s x .confirmTimeout (by simp [sent])]

/-! ### FAULT of a QUEUED command (R99, R102) -/

/-- The state FAULT leaves before the room of the removed command is given: the record faulted and its command gone from
the queue (R99). -/
def faultedUnsent (x : CrossNo) (s : State) : State :=
  { s with commands := s.commands.filter fun d => d.crossover != x }.setCross x
    { s.cross x with state := .fault, status := .none }

section
variable {kind : CommandKind} (queued : (s.cross x).status = .queued kind) (cause : FaultCause)
include queued

theorem enterFault_queued :
    enterFault x cause s = serveOwed (emit [.notice (.crossoverFault x cause)] (faultedUnsent x s)) := by
  have : (s.cross x).status.isQueued = true := by rw [queued]; rfl
  exact if_pos this

/-- A RETURN is OWED after the FAULT exactly where one was before: the faulted crossover owed none. -/
theorem faultedUnsent_owed (y : CrossNo) (pulse : Nat) :
    ((faultedUnsent x s).cross y).status = .owed pulse ↔ (s.cross y).status = .owed pulse := by
  rw [faultedUnsent, cross_setCross]
  split
  · rename_i same
    simp [← same, queued]
  · rfl

theorem enterFault_unowed (unowed : ∀ y pulse, (s.cross y).status ≠ .owed pulse) :
    enterFault x cause s = emit [.notice (.crossoverFault x cause)] (faultedUnsent x s) := by
  rw [enterFault_queued queued]
  exact serveOwed_none _ fun y pulse h => unowed y pulse ((faultedUnsent_owed queued y pulse).mp h)

/-- The room of the removed command goes to the lowest-numbered OWED RETURN (R102). -/
theorem enterFault_givesRoom {y : CrossNo} {pulse : Nat} (owed : (s.cross y).status = .owed pulse)
    (least : ∀ z, z < y → ∀ q, (s.cross z).status ≠ .owed q) :
    enterFault x cause s = emit [.notice (.crossoverFault x cause)]
      ({ faultedUnsent x s with
          commands := (faultedUnsent x s).commands ++ [(⟨y, .returning, pulse⟩ : SectionCommand)] }.setCross y
        { s.cross y with status := .queued .returning }) := by
  have apart : x ≠ y := by
    rintro rfl
    simp [queued] at owed
  have kept : (faultedUnsent x s).cross y = s.cross y := (cross_setCross _ y x _).trans (if_neg apart)
  rw [enterFault_queued queued,
    serveOwed_some (emit _ (faultedUnsent x s)) ((faultedUnsent_owed queued y pulse).mpr owed)
      fun z hz q h => least z hz q ((faultedUnsent_owed queued z q).mp h), emit_cross, kept]
  rfl
end

/-- Settles O52: no report confirms a QUEUED command, so each is a FAULT, and the room of the command goes to an OWED
RETURN. -/
theorem faultOfAQueuedCommandGivesItsRoom : Obligations.FaultOfAQueuedCommandGivesItsRoom := by
  unfold Obligations.FaultOfAQueuedCommandGivesItsRoom
  rintro s x _ pos kind _ rfl queued state rfl
  have contradicts : (s.cross x).Contradicts pos := by
    have unsent : ∀ kind d, (s.cross x).status ≠ .sent kind d := by simp [queued]
    exact .inr (.inr (state.imp (⟨·, .inr unsent⟩) (⟨·, .inr unsent⟩)))
  have fault : exec (.position x pos) s = .next (enterFault x .wrongPosition s.reportTaken) :=
    congrArg Host.Outcome.next (takePosition_contradicts (s := s.reportTaken) contradicts)
  rw [fault]
  refine ⟨fun unowed => ?_, fun y pulse owed least => ?_⟩
  · exact congrArg Host.Outcome.next (enterFault_unowed (s := s.reportTaken) queued _ unowed)
  · exact congrArg Host.Outcome.next (enterFault_givesRoom (s := s.reportTaken) queued _ owed least)

/-! ### A confirm (R92, R93, R97) -/

/-- The record after a confirm: no command, settled now, and the guard started unless the dead time is 0 (R92). -/
def Crossover.settledAt (c : Crossover) (now : Time) : Crossover :=
  { c with status := .none, settled := now, guardRunning := decide (0 < c.config.dead) }

theorem confirmCommand_eq : confirmCommand x s = s.setCross x ((s.cross x).settledAt s.time) := by
  have guard : ((s.cross x).config.dead != 0) = decide (0 < (s.cross x).config.dead) :=
    Bool.eq_iff_iff.mpr (by simp [Nat.pos_iff_ne_zero])
  simp only [confirmCommand, Crossover.settledAt, guard]

section
variable {kind : CommandKind} {deadline : Time} (sent : (s.cross x).status = .sent kind deadline)
include sent

theorem takePosition_confirmsThrow (throwing : (s.cross x).state = .throwing) :
    takePosition x .divert s = confirmThrow x s := by simp only [takePosition, throwing, sent]

theorem takePosition_confirmsReturn (returning : (s.cross x).state = .returning) :
    takePosition x .straight s = confirmReturn x s := by simp only [takePosition, returning, sent]
end

/-- A THROW confirmed with a car in the zone (R93). -/
theorem confirmThrow_busy (busy : (s.cross x).zone ≠ []) :
    confirmThrow x s = s.setCross x { (s.cross x).settledAt s.time with state := .diverted } := by
  simp [confirmThrow, confirmCommand_eq, Crossover.settledAt, busy]

/-- A THROW confirmed with the zone empty and the guard running: HOLDING (R93). -/
theorem confirmThrow_waits (empty : (s.cross x).zone = []) (dead : 0 < (s.cross x).config.dead) :
    confirmThrow x s = s.setCross x { (s.cross x).settledAt s.time with state := .holding } := by
  simp [confirmThrow, confirmCommand_eq, becomeHolding_eq, Crossover.settledAt, empty, dead]

/-- A THROW confirmed with the zone empty and a dead time of 0: its RETURN comes at once (R95). -/
theorem confirmThrow_returns (empty : (s.cross x).zone = []) (dead : (s.cross x).config.dead = 0) :
    confirmThrow x s = decideReturn x (s.setCross x ((s.cross x).settledAt s.time)) := by
  simp [confirmThrow, confirmCommand_eq, becomeHolding_eq, Crossover.settledAt, empty, dead]

/-- A RETURN confirmed with a car in the zone (R97). -/
theorem confirmReturn_busy (busy : (s.cross x).zone ≠ []) :
    confirmReturn x s = s.setCross x { (s.cross x).settledAt s.time with state := .passing } := by
  simp [confirmReturn, confirmCommand_eq, Crossover.settledAt, busy]

/-- A RETURN confirmed with the zone empty: OPEN (R97). -/
theorem confirmReturn_empty (empty : (s.cross x).zone = []) : confirmReturn x s =
    becomeOpen x (s.setCross x ((s.cross x).settledAt s.time)) := by
  simp [confirmReturn, confirmCommand_eq, Crossover.settledAt, empty]

/-- Settles O50: the confirm of a THROW or a RETURN by the zone and the dead time. -/
theorem positionConfirmsASentCommand : Obligations.PositionConfirmsASentCommand := by
  unfold Obligations.PositionConfirmsASentCommand
  rintro s x _ _ kind deadline rfl sent rfl
  have thrown (h : (s.cross x).state = .throwing) :
      exec (.position x .divert) s = .next (confirmThrow x s.reportTaken) :=
    congrArg Host.Outcome.next (takePosition_confirmsThrow (s := s.reportTaken) sent h)
  have returned (h : (s.cross x).state = .returning) :
      exec (.position x .straight) s = .next (confirmReturn x s.reportTaken) :=
    congrArg Host.Outcome.next (takePosition_confirmsReturn (s := s.reportTaken) sent h)
  refine ⟨fun h busy => ?diverted, fun h empty dead => ?holding, fun h empty dead room => ?queued,
    fun h empty dead full => ?owed, fun h busy => ?passing, fun h empty plain => ?opened,
    fun g h empty staged => ?applied⟩
  case diverted =>
    rw [thrown h, confirmThrow_busy (s := s.reportTaken) busy]
    rfl
  case holding =>
    rw [thrown h, confirmThrow_waits (s := s.reportTaken) empty dead]
    rfl
  case queued =>
    rw [thrown h, confirmThrow_returns (s := s.reportTaken) empty dead,
      decideReturn_setCross_room s.reportTaken room]
    rfl
  case owed =>
    rw [thrown h, confirmThrow_returns (s := s.reportTaken) empty dead,
      decideReturn_setCross_full s.reportTaken full]
    rfl
  case passing =>
    rw [returned h, confirmReturn_busy (s := s.reportTaken) busy]
    rfl
  case opened =>
    rw [returned h, confirmReturn_empty (s := s.reportTaken) empty, becomeOpen_plain, cross_setCross_self,
      setCross_setCross]
    · rfl
    · rw [cross_setCross_self]
      exact plain
  case applied =>
    rw [returned h, confirmReturn_empty (s := s.reportTaken) empty, becomeOpen_staged (g := g), cross_setCross_self,
      setCross_setCross]
    · simp [Crossover.settledAt, State.cross]
    · rw [cross_setCross_self]
      exact staged

end Sys2Proof.Machine
end

section
/-! CROSSOVER-SET: a configuration staged, or applied by the crossover's state (R92, R104 to R107). -/

namespace Sys2Proof.Machine

variable {s : State} {x : CrossNo} {g : CrossConfig}

/-- The states in which a configuration is staged (R104). -/
theorem appliesAtOnce_iff {state : CrossState} : state.appliesAtOnce = false ↔
    state ∈ [.passing, .throwing, .diverted, .holding, .returning] := by
  cases state <;> simp [CrossState.appliesAtOnce]

theorem loadConfig_staged (staged : (s.cross x).state.appliesAtOnce = false) :
    loadConfig x g s = s.setCross x { s.cross x with staged := some g } := if_neg (by simp [staged])

/-! ### A configuration applied (R105 to R107) -/

/-- The configuration is applied at once, and leaves the record in a state, with a command status, and the command
queue. -/
def AppliedAs (s : State) (x : CrossNo) (g : CrossConfig) (state : CrossState) (status : CommandStatus)
    (queue : List SectionCommand) : Prop :=
  loadConfig x g s =
    ({ s with commands := queue }.setCross x { (s.cross x).applied g state s.time with status := status })

/-- The configuration loaded at once is applied to the record without a staged one. -/
theorem loadConfig_atOnce (atOnce : (s.cross x).state.appliesAtOnce = true) :
    loadConfig x g s = applyConfig x g (s.setCross x { s.cross x with staged := none }) := if_pos atOnce

theorem withConfig_eq (c : Crossover) (now : Time) :
    { c with staged := none }.withConfig now g = c.applied g c.state now := by
  simp only [Crossover.withConfig, Crossover.applied, deadTimePassed, ← decide_not, Nat.not_le]

section
variable (atOnce : (s.cross x).state.appliesAtOnce = true)
include atOnce

/-- In service the crossover keeps its state and its command (R105). -/
theorem applied_inService (enabled : g.enabled = true) (served : (s.cross x).state ≠ .disabled) :
    AppliedAs s x g (s.cross x).state (s.cross x).status s.commands := by
  rw [AppliedAs, loadConfig_atOnce atOnce, applyConfig, cross_setCross_self, setCross_time, withConfig_eq,
    if_pos enabled]
  split
  · contradiction
  all_goals exact setCross_setCross s x _ _

/-- Out of service the crossover is DISABLED, but for a FAULT with a car in its zone (R106). -/
theorem applied_outOfService (disabled : g.enabled = false) :
    AppliedAs s x g (if (s.cross x).state = .fault ∧ (s.cross x).zone ≠ [] then .fault else .disabled)
      (s.cross x).status s.commands := by
  rw [AppliedAs, loadConfig_atOnce atOnce, applyConfig, cross_setCross_self, setCross_time, withConfig_eq,
    if_neg (by simp [disabled])]
  have plain {state : CrossState} (h : (s.cross x).state = state) (sound : state ≠ .fault) :
      ¬((s.cross x).state = .fault ∧ (s.cross x).zone ≠ []) := fun fault => sound (h.symm.trans fault.1)
  split
  case h_1 h | h_2 h | h_3 h => rw [if_neg (plain h nofun)]; exact setCross_setCross s x _ _
  case h_4 h =>
    have h : (s.cross x).state = .fault := h
    split
    · rename_i empty
      rw [if_neg fun fault => fault.2 (List.isEmpty_iff.mp empty)]
      exact setCross_setCross s x _ _
    · rename_i busy
      rw [if_pos ⟨h, fun empty => busy (List.isEmpty_iff.mpr empty)⟩, ← h]
      exact setCross_setCross s x _ _
  case h_5 h | h_6 h | h_7 h | h_8 h | h_9 h =>
    rw [show (s.cross x).state = _ from h] at atOnce
    contradiction
end

section
variable (enabled : g.enabled = true) (disabled : (s.cross x).state = .disabled)
include enabled disabled

/-- Back in service the crossover is DARK in CUTOFF, and otherwise a RETURN is decided (R107). -/
theorem loadConfig_intoService : loadConfig x g s =
    if s.track = .cutoff then s.setCross x ((s.cross x).applied g .dark s.time)
    else decideReturn x (s.setCross x ((s.cross x).applied g .disabled s.time)) := by
  rw [loadConfig_atOnce (by rw [disabled]; rfl), applyConfig, cross_setCross_self, setCross_time, withConfig_eq,
    if_pos enabled]
  simp only [setCross_setCross, disabled]
  rfl

theorem applied_cutoff (cut : s.track = .cutoff) : AppliedAs s x g .dark (s.cross x).status s.commands := by
  rw [AppliedAs, loadConfig_intoService enabled disabled, if_pos cut]
  rfl

theorem applied_returning_room (running : s.track ≠ .cutoff) (room : s.commands.length < 8) :
    AppliedAs s x g .returning (.queued .returning)
      (s.commands ++ [(⟨x, .returning, g.pulse⟩ : SectionCommand)]) := by
  rw [AppliedAs, loadConfig_intoService enabled disabled, if_neg running, decideReturn_setCross_room s room]
  rfl

theorem applied_returning_full (running : s.track ≠ .cutoff) (full : 8 ≤ s.commands.length) :
    AppliedAs s x g .returning (.owed g.pulse) s.commands := by
  rw [AppliedAs, loadConfig_intoService enabled disabled, if_neg running, decideReturn_setCross_full s full]
  rfl
end

/-! ### CROSSOVER-SET -/

theorem crossoverSetRequest_loads (tag enable pulse dead confirm clearHi clearLo : Byte)
    (hg : g = configArgs enable pulse dead confirm clearHi clearLo) :
    crossoverSetRequest tag [byte x.val, enable, pulse, dead, confirm, clearHi, clearLo] s =
      emit [okReply tag 0x40 (configBytes (freeBits s 0) g ++ [if !(s.cross x).state.appliesAtOnce then 1 else 0])]
        (loadConfig x g s).draw := by
  subst hg
  simp only [crossoverSetRequest, crossArg_byte, answer_eq]
  cases (s.cross x).state.appliesAtOnce <;> rfl

/-- What R105 to R107 make of the state, the command status and the command queue when a configuration is applied. -/
theorem applied_asStated (atOnce : (s.cross x).state.appliesAtOnce = true) : ∃ state status queue,
    AppliedAs s x g state status queue ∧
    (g.enabled = true → (s.cross x).state ≠ .disabled →
      state = (s.cross x).state ∧ status = (s.cross x).status ∧ queue = s.commands) ∧
    ((s.cross x).state = .disabled → g.enabled = true → s.track = .cutoff →
      state = .dark ∧ status = (s.cross x).status ∧ queue = s.commands) ∧
    ((s.cross x).state = .disabled → g.enabled = true → s.track ≠ .cutoff → state = .returning ∧
      (s.commands.length < 8 → status = .queued .returning ∧
        queue = s.commands ++ [(⟨x, .returning, g.pulse⟩ : SectionCommand)]) ∧
      (8 ≤ s.commands.length → status = .owed g.pulse ∧ queue = s.commands)) ∧
    (g.enabled = false → status = (s.cross x).status ∧ queue = s.commands ∧
      state = if (s.cross x).state = .fault ∧ (s.cross x).zone ≠ [] then .fault else .disabled) := by
  cases enabled : g.enabled with
  | false => exact ⟨_, _, _, applied_outOfService atOnce enabled, nofun, nofun, nofun, fun _ => ⟨rfl, rfl, rfl⟩⟩
  | true =>
    by_cases disabled : (s.cross x).state = .disabled
    · by_cases cut : s.track = .cutoff
      · exact ⟨_, _, _, applied_cutoff enabled disabled cut, fun _ served => absurd disabled served,
          fun _ _ _ => ⟨rfl, rfl, rfl⟩, fun _ _ running => absurd cut running, nofun⟩
      · rcases Nat.lt_or_ge s.commands.length 8 with room | full
        · exact ⟨_, _, _, applied_returning_room enabled disabled cut room, fun _ served => absurd disabled served,
            fun _ _ cutoff => absurd cutoff cut, fun _ _ _ => ⟨rfl, fun _ => ⟨rfl, rfl⟩, fun full => by omega⟩, nofun⟩
        · exact ⟨_, _, _, applied_returning_full enabled disabled cut full, fun _ served => absurd disabled served,
            fun _ _ cutoff => absurd cutoff cut, fun _ _ _ => ⟨rfl, fun room => by omega, fun _ => ⟨rfl, rfl⟩⟩, nofun⟩
    · exact ⟨_, _, _, applied_inService atOnce enabled disabled, fun _ _ => ⟨rfl, rfl, rfl⟩,
        fun h => absurd h disabled, fun h => absurd h disabled, nofun⟩

/-- Settles O27: the configuration is clamped, and staged or applied by the crossover's state. -/
theorem crossoverSetStagesOrApplies : Obligations.CrossoverSetStagesOrApplies := by
  unfold Obligations.CrossoverSetStagesOrApplies
  rintro s tag enable pulse dead confirm clearHi clearLo x g _ room rfl hg
  have hg : g = configArgs enable pulse dead confirm clearHi clearLo := by
    rw [hg, configArgs, clamp_zero]
    rfl
  have said : ConfigBytes (configBytes (freeBits s 0) g) g := configBytes_say _ (hg ▸ configArgs_ok ..)
  have taken {t : State} (loaded : loadConfig x g s.handTaken = t) :
      exec (.crossoverSet tag [byte x.val, enable, pulse, dead, confirm, clearHi, clearLo]) s =
        .next (emit [okReply tag 0x40 (configBytes (freeBits s 0) g ++
          [if !(s.cross x).state.appliesAtOnce then 1 else 0])] t.draw) :=
    request_taken room ((crossoverSetRequest_loads tag enable pulse dead confirm clearHi clearLo hg).trans
      (by rw [loaded]; rfl))
  cases atOnce : (s.cross x).state.appliesAtOnce with
  | false =>
    have among := appliesAtOnce_iff.mp atOnce
    refine ⟨_, true, _, s.commands, ?_, said, iff_of_true rfl among, fun _ => ⟨rfl, rfl⟩, nofun, nofun, ?_, ?_, nofun⟩
    · rw [taken (loadConfig_staged (s := s.handTaken) atOnce), atOnce]
      rfl
    all_goals
      intro disabled
      simp [disabled] at among
  | true =>
    have among : (s.cross x).state ∉ [.passing, .throwing, .diverted, .holding, .returning] :=
      fun h => by simp [appliesAtOnce_iff.mpr h] at atOnce
    obtain ⟨state, status, queue, applied, inService, cutoff, returns, outOfService⟩ :=
      applied_asStated (s := s.handTaken) (g := g) atOnce
    refine ⟨_, false, { (s.cross x).applied g state s.time with status := status }, queue, ?_, said,
      iff_of_false nofun among, nofun, fun _ => ⟨rfl, rfl, rfl, rfl⟩, fun _ => inService, cutoff, returns,
      fun _ => outOfService⟩
    rw [taken applied, atOnce]
    rfl

end Sys2Proof.Machine
end

section
/-! The gate frame (R101, R102, R131). -/

namespace Sys2Proof.Machine

variable {s : State} {n : Fin 12}

/-- A gate frame follows the drive frame of slot number 8 or the first gate frame (R126). -/
theorem gateFrame_forms (running : s.railFresh = false)
    (place : (s.framePos = 8 ∧ n = 9) ∨ (s.framePos = 9 ∧ n = 10)) : exec .gateFrame s = .next (formGate n s) := by
  rcases place with ⟨place, rfl⟩ | ⟨place, rfl⟩
  · exact congrArg Host.Outcome.next (if_pos (frameFormedAt_of_framePos (p := 8) running place))
  · have second : frameFormedAt s 8 = false := by simp [frameFormedAt, place]
    exact congrArg Host.Outcome.next ((if_neg (by simp [second])).trans
      (if_pos (frameFormedAt_of_framePos (p := 9) running place)))

/-- The head command has left the queue, and its crossover is SENT with its confirm deadline (R131). -/
def headSent (d : SectionCommand) (rest : List SectionCommand) (s : State) : State :=
  { s with commands := rest }.setCross d.crossover
    { s.cross d.crossover with status := .sent d.kind (s.after (s.cross d.crossover).config.confirm) }

theorem formGate_idle (empty : s.commands = []) : formGate n s = putFrame n (.gate none) s := by
  simp only [formGate, empty]

section
variable {d : SectionCommand} {rest : List SectionCommand}

theorem formGate_carries (queue : s.commands = d :: rest) :
    formGate n s = putFrame n (.gate (some d)) (serveOwed (headSent d rest s)) := by
  simp only [formGate, queue]
  rfl

/-- After the departure the crossover of the command owes no RETURN, and the others owe what they owed. -/
theorem headSent_owed (y : CrossNo) (pulse : Nat) : ((headSent d rest s).cross y).status = .owed pulse ↔
    y ≠ d.crossover ∧ (s.cross y).status = .owed pulse := by
  rw [headSent, cross_setCross]
  split
  · rename_i same
    simp [same]
  · rename_i apart
    exact (and_iff_right (Ne.symm apart)).symm

theorem serveOwed_headSent_unowed (unowed : ∀ y, y ≠ d.crossover → ∀ pulse, (s.cross y).status ≠ .owed pulse) :
    serveOwed (headSent d rest s) = headSent d rest s :=
  serveOwed_none _ fun y pulse h => by
    obtain ⟨apart, owed⟩ := (headSent_owed y pulse).mp h
    exact unowed y apart pulse owed

/-- The room of the departed command goes to the lowest-numbered OWED RETURN (R102). -/
theorem serveOwed_headSent_owed {y : CrossNo} {pulse : Nat} (apart : y ≠ d.crossover)
    (owed : (s.cross y).status = .owed pulse)
    (least : ∀ z, z < y → z ≠ d.crossover → ∀ q, (s.cross z).status ≠ .owed q) :
    serveOwed (headSent d rest s) =
      ({ headSent d rest s with commands := rest ++ [(⟨y, .returning, pulse⟩ : SectionCommand)] }.setCross y
        { s.cross y with status := .queued .returning }) := by
  have kept : (headSent d rest s).cross y = s.cross y := (cross_setCross _ y _ _).trans (if_neg apart.symm)
  rw [serveOwed_some _ ((headSent_owed y pulse).mpr ⟨apart, owed⟩) fun z hz q h => by
    obtain ⟨apart, owed⟩ := (headSent_owed z q).mp h
    exact least z hz apart q owed, kept]
  rfl
end

/-- Settles O56: an idle frame with the queue empty, and else the head command's, after which `serveOwed` gives its
room. -/
theorem gateFrameTakesTheHeadCommand : Obligations.GateFrameTakesTheHeadCommand := by
  unfold Obligations.GateFrameTakesTheHeadCommand
  intro s n running place
  rw [gateFrame_forms running place]
  refine ⟨fun empty => ?idle, ?carries⟩
  case idle =>
    rw [formGate_idle empty, putFrame, ← running]
  case carries =>
    rintro d rest _ queue rfl
    rw [formGate_carries queue]
    refine ⟨fun unowed => ?_, fun y pulse apart owed least => ?_⟩
    · rw [serveOwed_headSent_unowed unowed, putFrame, ← running]
      rfl
    · rw [serveOwed_headSent_owed apart owed least, putFrame, ← running]
      rfl

end Sys2Proof.Machine
end

section
/-! The two receiving ports: what becomes of the bytes of one frame, and the frame as the command it stands for (R108,
R109, R142, R143). -/

namespace Sys2Proof.Machine

variable {s : State}

/-! ### Runs of bytes -/

/-- Bytes received on the hand link may come in one run or in two. -/
theorem receiveHand_append (a b : List Byte) : receiveHand (a ++ b) s = receiveHand b (receiveHand a s) := by
  induction a generalizing s with
  | nil => rfl
  | cons byte rest ih =>
    rw [List.cons_append, receiveHand, receiveHand]
    split <;> exact ih

/-- Bytes received on the section line may come in one run or in two. -/
theorem receiveSection_append (a b : List Byte) :
    receiveSection (a ++ b) s = receiveSection b (receiveSection a s) := by
  induction a generalizing s with
  | nil => rfl
  | cons byte rest ih =>
    rw [List.cons_append, receiveSection, receiveSection]
    split <;> exact ih

/-- A byte that completes no frame moves the hand link's buffer alone. -/
theorem receiveHand_buffered {b : Byte} {buffer : List Byte} (taken : handRxByte s.handRx b = (buffer, none))
    (rest : List Byte) : receiveHand (b :: rest) s = receiveHand rest { s with handRx := buffer } := by
  rw [receiveHand, taken]

/-- A byte that completes no report moves the section line's buffer alone. -/
theorem receiveSection_buffered {b : Byte} {buffer : List Byte} (taken : sectionRxByte s.sectionRx b = (buffer, none))
    (rest : List Byte) : receiveSection (b :: rest) s = receiveSection rest { s with sectionRx := buffer } := by
  rw [receiveSection, taken]

/-- A byte that completes a frame has it routed (R143). -/
theorem receiveHand_completed {b kind : Byte} {buffer payload : List Byte}
    (taken : handRxByte s.handRx b = (buffer, some (kind, payload))) (rest : List Byte) :
    receiveHand (b :: rest) s = receiveHand rest (routeFrame kind payload { s with handRx := buffer }) := by
  rw [receiveHand, taken]

/-- A byte that completes a report has it handed on (R109). -/
theorem receiveSection_completed {b : Byte} {buffer : List Byte} {r : Report}
    (taken : sectionRxByte s.sectionRx b = (buffer, some r)) (rest : List Byte) :
    receiveSection (b :: rest) s = receiveSection rest (routeReport r { s with sectionRx := buffer }) := by
  rw [receiveSection, taken]

theorem handTaken_of_hunting (hunting : s.handRx = []) : s.handTaken = s := by
  rw [State.handTaken, ← hunting]

theorem reportTaken_of_hunting (hunting : s.sectionRx = []) : s.reportTaken = s := by
  rw [State.reportTaken, ← hunting]

/-- The check byte is the one that makes the sum 0 (R108, Table 12-1). -/
theorem eq_checkByte_iff {covered : List Byte} {check : Byte} :
    check = checkByte covered ↔ covered.sum + check = 0 := by
  rw [checkByte, eq_sub_iff_add_eq, add_comm]

/-! ### Frames of the hand link (R142, R143) -/

section
variable {start kind length : Byte}

/-- Payload bytes within the length are assembled. -/
theorem receiveHand_payload {got more : List Byte} (holds : s.handRx = start :: kind :: length :: got)
    (short : got.length + more.length ≤ length.toNat) :
    receiveHand more s = { s with handRx := start :: kind :: length :: (got ++ more) } := by
  induction more generalizing s got with
  | nil => rw [receiveHand, List.append_nil, ← holds]
  | cons b more ih =>
    rw [List.length_cons] at short
    have taken : handRxByte s.handRx b = (start :: kind :: length :: got ++ [b], none) := by
      rw [holds]
      exact if_pos (by omega)
    rw [receiveHand_buffered taken, ih (got := got ++ [b]) rfl (by simp; omega), List.append_assoc]
    rfl

/-- A frame's bytes up to its check byte, received while the port hunts. -/
theorem receiveHand_uptoCheck (hunting : s.handRx = []) (kind : Byte) {payload : List Byte}
    (fits : payload.length ≤ 24) : receiveHand ([0xC3, kind, byte payload.length] ++ payload) s =
      { s with handRx := 0xC3 :: kind :: byte payload.length :: payload } := by
  have length : (byte payload.length).toNat = payload.length := byte_toNat (by omega)
  have head : receiveHand [0xC3, kind, byte payload.length] s =
      { s with handRx := [0xC3, kind, byte payload.length] } := by
    have third : ¬ 24 < (byte payload.length).toNat := by omega
    simp [receiveHand, handRxByte, hunting, third]
  rw [receiveHand_append, head, receiveHand_payload (got := []) rfl (by rw [length]; simp)]
  rfl

/-- A frame received while the port hunts is routed if its check is good, and discarded if it is not (R142). -/
theorem receiveHand_frame (hunting : s.handRx = []) (kind : Byte) {payload : List Byte} (fits : payload.length ≤ 24)
    (check : Byte) : receiveHand ([0xC3, kind, byte payload.length] ++ payload ++ [check]) s =
      if check = checkByte (kind :: byte payload.length :: payload) then routeFrame kind payload s else s := by
  have length : (byte payload.length).toNat = payload.length := byte_toNat (by omega)
  rw [receiveHand_append, receiveHand_uptoCheck hunting kind fits]
  have full : ¬ payload.length < (byte payload.length).toNat := by omega
  by_cases good : check = checkByte (kind :: byte payload.length :: payload)
  · have taken : handRxByte (0xC3 :: kind :: byte payload.length :: payload) check = ([], some (kind, payload)) :=
      (if_neg full).trans (if_pos good)
    rw [receiveHand_completed taken, if_pos good]
    exact congrArg (routeFrame kind payload) (handTaken_of_hunting hunting)
  · have taken : handRxByte (0xC3 :: kind :: byte payload.length :: payload) check = ([], none) :=
      (if_neg full).trans (if_neg good)
    rw [receiveHand_buffered taken, if_neg good]
    exact handTaken_of_hunting hunting

/-- A well-laid-out frame is routed (R142, Table 12-1). -/
theorem receiveHand_handFrame (hunting : s.handRx = []) (kind : Byte) {payload : List Byte}
    (fits : payload.length ≤ 24) : receiveHand (handFrame kind payload) s = routeFrame kind payload s :=
  (receiveHand_frame hunting kind fits (checkByte (kind :: byte payload.length :: payload))).trans (if_pos rfl)
end

/-- Each request is the one its code of Table 12-4 names (R151 ①, log entry 12). -/
theorem exec_request {tag : Byte} {args : List Byte} : ∀ r ∈ requestTable tag args,
    exec r.1 s = exec (.unknownRequest tag r.2.1 args) s := by
  simp only [requestTable, List.forall_mem_cons]
  refine ⟨rfl, rfl, rfl, rfl, rfl, rfl, rfl, rfl, rfl, rfl, rfl, rfl, rfl, rfl, rfl, rfl, rfl, rfl, rfl, rfl, rfl, ?_⟩
  exact List.forall_mem_nil _

/-! ### Reports of the section line (R108, R109) -/

section
variable {head check : Byte} {body : List Byte}

/-- Body bytes within the length of the kind are assembled. -/
theorem receiveSection_body {start : Byte} {length : Nat} {got more : List Byte} (kind : bodyLength head = some length)
    (holds : s.sectionRx = start :: head :: got) (short : got.length + more.length ≤ length) :
    receiveSection more s = { s with sectionRx := start :: head :: (got ++ more) } := by
  induction more generalizing s got with
  | nil => rw [receiveSection, List.append_nil, ← holds]
  | cons b more ih =>
    rw [List.length_cons] at short
    have taken : sectionRxByte s.sectionRx b = (start :: head :: got ++ [b], none) := by
      rw [holds]
      exact if_pos (by rw [kind]; exact (by omega : got.length < length))
    rw [receiveSection_buffered taken, ih (got := got ++ [b]) rfl (by simp; omega), List.append_assoc]
    rfl

/-- A report's bytes up to its check byte, received while the port hunts. -/
theorem receiveSection_uptoCheck (hunting : s.sectionRx = []) (kind : bodyLength head = some body.length) :
    receiveSection ([0xB4, head] ++ body) s = { s with sectionRx := 0xB4 :: head :: body } := by
  have opened : receiveSection [0xB4, head] s = { s with sectionRx := [0xB4, head] } := by
    simp [receiveSection, sectionRxByte, hunting, kind]
  rw [receiveSection_append, opened, receiveSection_body (got := []) kind rfl (by simp)]
  rfl

section
variable (hunting : s.sectionRx = []) (kind : bodyLength head = some body.length)
include hunting kind

/-- A report with a good check, received while the port hunts, is handed on (R108, R109). -/
theorem receiveSection_report {r : Report} (good : check = checkByte (head :: body))
    (report : reportOf head body = some r) :
    receiveSection ([0xB4, head] ++ body ++ [check]) s = routeReport r s.reportTaken := by
  rw [receiveSection_append, receiveSection_uptoCheck hunting kind]
  have taken : sectionRxByte (0xB4 :: head :: body) check = ([], some r) :=
    (if_neg (by rw [kind]; exact lt_irrefl body.length)).trans ((if_pos good).trans (by rw [report]))
  rw [receiveSection_completed taken]
  rfl

/-- A report with a bad check, or one that names no position, is discarded (R108). -/
theorem receiveSection_badReport (bad : check ≠ checkByte (head :: body) ∨ reportOf head body = none) :
    receiveSection ([0xB4, head] ++ body ++ [check]) s = s := by
  rw [receiveSection_append, receiveSection_uptoCheck hunting kind]
  have taken : sectionRxByte (0xB4 :: head :: body) check = ([], none) := by
    refine (if_neg (by rw [kind]; exact lt_irrefl body.length)).trans ?_
    by_cases good : check = checkByte (head :: body)
    · rw [if_pos good, bad.resolve_left (not_not_intro good)]
    · exact if_neg good
  rw [receiveSection_buffered taken]
  exact reportTaken_of_hunting hunting
end
end

theorem bodyLength_sighting {head : Byte} (kind : headKind head = 0) : bodyLength head = some 3 := if_pos kind

theorem bodyLength_position {head : Byte} (kind : headKind head = 1) : bodyLength head = some 1 := by
  simp [bodyLength, kind]

/-- The head byte of a SIGHTING of crossover `x` (Table 12-12). -/
theorem head_sighting (x : CrossNo) : headKind (byte x.val) = 0 ∧ headCross (byte x.val) = x := by
  revert x; decide

/-- The head byte of a POSITION of crossover `x` (Table 12-12). -/
theorem head_position (x : CrossNo) : headKind (byte (x.val + 16)) = 1 ∧ headCross (byte (x.val + 16)) = x := by
  revert x; decide

theorem positionArg_code (pos : Position) : positionArg (Position.code pos) = some pos := by cases pos <;> rfl

/-- Settles O58: a frame's bytes are assembled and routed, and a run of bytes is received byte by byte. -/
theorem receivedFrameIsItsCommand : Obligations.ReceivedFrameIsItsCommand := by
  unfold Obligations.ReceivedFrameIsItsCommand
  refine ⟨?sample, ?request, ?report, ?runs⟩
  case sample =>
    intro s payload hunting fits
    exact congrArg Host.Outcome.next (receiveHand_handFrame hunting _ fits)
  case request =>
    intro s tag code args hunting fits
    have coded (code : Byte) : exec (.handLinkFrameDiscard (handFrame 0x20 (tag :: code :: args))) s =
        exec (.unknownRequest tag code args) s :=
      congrArg Host.Outcome.next (receiveHand_handFrame hunting _ fits)
    exact ⟨fun r hr => (coded r.2.1).trans (exec_request r hr).symm, coded code⟩
  case report =>
    intro s x sensor p w pos hunting
    obtain ⟨sighting, reporter⟩ := head_sighting x
    obtain ⟨position, mover⟩ := head_position x
    refine ⟨?_, ?_⟩
    · have taken := receiveSection_report (body := [sensor, p, w]) hunting (bodyLength_sighting sighting) rfl rfl
      rw [reporter] at taken
      exact congrArg Host.Outcome.next taken
    · have taken := receiveSection_report (body := [Position.code pos]) hunting (bodyLength_position position) rfl
        (congrArg (Option.map (Report.position (headCross (byte (x.val + 16))))) (positionArg_code pos))
      rw [mover] at taken
      cases pos <;> exact congrArg Host.Outcome.next taken
  case runs =>
    refine fun s t a b => ⟨fun first => ?_, fun first => ?_⟩
    · exact congrArg Host.Outcome.next ((receiveHand_append a b).trans
        (congrArg (receiveHand b) (Host.Outcome.next.inj first)))
    · exact congrArg Host.Outcome.next ((receiveSection_append a b).trans
        (congrArg (receiveSection b) (Host.Outcome.next.inj first)))

end Sys2Proof.Machine
end

section
/-! What the two lines discard while they hunt (R108, R142, R143). -/

namespace Sys2Proof.Machine

variable {s : State}

/-! ### Hand link (R142, R143) -/

section
variable (hunting : s.handRx = [])
include hunting

/-- Bytes before a start byte are dropped (R142). -/
theorem receiveHand_noStart {bytes : List Byte} (absent : (0xC3 : Byte) ∉ bytes) : receiveHand bytes s = s := by
  induction bytes with
  | nil => rfl
  | cons b rest ih =>
    rw [List.mem_cons, not_or] at absent
    obtain ⟨other, absent⟩ := absent
    have taken : handRxByte s.handRx b = ([], none) := by
      rw [hunting]
      exact congrArg (·, none) (if_neg (Ne.symm other))
    rw [receiveHand_buffered taken]
    exact (congrArg (receiveHand rest) (handTaken_of_hunting hunting)).trans (ih absent)

/-- A length over 24 is discarded at once (R142). -/
theorem receiveHand_overlong (kind : Byte) {length : Byte} (overlong : 24 < length.toNat) :
    receiveHand [0xC3, kind, length] s = s := by
  have dropped : receiveHand [0xC3, kind, length] s = s.handTaken := by
    simp [receiveHand, handRxByte, hunting, overlong]
  rw [dropped, handTaken_of_hunting hunting]

theorem receiveHand_badCheck (kind : Byte) {check : Byte} {payload : List Byte} (fits : payload.length ≤ 24)
    (bad : (kind :: byte payload.length :: payload).sum + check ≠ 0) :
    receiveHand ([0xC3, kind, byte payload.length] ++ payload ++ [check]) s = s := by
  rw [receiveHand_frame hunting kind fits, if_neg (mt eq_checkByte_iff.mp bad)]

/-- A kind that the port does not take, or a REQUEST without a code (R143). -/
theorem routeFrame_discards {kind : Byte} {payload : List Byte} (unsampled : kind ≠ 0x10)
    (unrequested : kind = 0x20 → payload.length < 2) : routeFrame kind payload s = s := by
  have taken : s.handTaken = s := handTaken_of_hunting hunting
  unfold routeFrame
  rw [if_neg unsampled]
  split
  · rename_i request
    match payload, unrequested request with
    | [], _ => exact taken
    | [_], _ => exact taken
  · exact taken
end

/-! ### Section line (R108) -/

section
variable (hunting : s.sectionRx = [])
include hunting

/-- Bytes before a start byte are dropped (R108). -/
theorem receiveSection_noStart {bytes : List Byte} (absent : (0xB4 : Byte) ∉ bytes) :
    receiveSection bytes s = s := by
  induction bytes with
  | nil => rfl
  | cons b rest ih =>
    rw [List.mem_cons, not_or] at absent
    obtain ⟨other, absent⟩ := absent
    have taken : sectionRxByte s.sectionRx b = ([], none) := by
      rw [hunting]
      exact congrArg (·, none) (if_neg (Ne.symm other))
    rw [receiveSection_buffered taken]
    exact (congrArg (receiveSection rest) (reportTaken_of_hunting hunting)).trans (ih absent)

/-- A head byte of another kind is discarded at once (R108). -/
theorem receiveSection_otherKind {head : Byte} (other : 2 ≤ headKind head) :
    receiveSection [0xB4, head] s = s := by
  have unknown : bodyLength head = none :=
    (if_neg (by omega : headKind head ≠ 0)).trans (if_neg (by omega : headKind head ≠ 1))
  have dropped : receiveSection [0xB4, head] s = s.reportTaken := by
    simp [receiveSection, sectionRxByte, hunting, unknown]
  rw [dropped, reportTaken_of_hunting hunting]
end

theorem positionArg_none {a : Byte} (unnamed : 2 ≤ a.toNat) : positionArg a = none := by
  have straight : a ≠ 0 := by rintro rfl; simp at unnamed
  have divert : a ≠ 1 := by rintro rfl; simp at unnamed
  rw [positionArg, if_neg straight, if_neg divert]

/-- A report of a kind that is not discarded, with room for its check byte (Table 12-12). -/
theorem reportRoom_iff {head : Byte} {size : Nat} : (∃ length, bodyLength head = some length ∧ size ≤ length + 2) ↔
    (headKind head = 0 ∧ size ≤ 5) ∨ (headKind head = 1 ∧ size ≤ 3) := by
  unfold bodyLength
  split
  · rename_i sighting
    simp [sighting]
  · rename_i unseen
    split
    · rename_i position
      simp [position]
    · rename_i unmoved
      simp [unseen, unmoved]

/-! ### What a receive buffer holds (R108, R142) -/

theorem partialHandFrame_byte {buffer : List Byte} (part : PartialHandFrame buffer) (b : Byte) :
    PartialHandFrame (handRxByte buffer b).1 := by
  match buffer with
  | [] =>
    dsimp only [handRxByte]
    split
    · rename_i start
      exact .inr ⟨by simp [start], by simp⟩
    · exact .inl rfl
  | [start] =>
    obtain ⟨opened, -⟩ := part.resolve_left nofun
    exact .inr ⟨opened, by simp [handRxByte]⟩
  | [start, kind] =>
    obtain ⟨opened, -⟩ := part.resolve_left nofun
    dsimp only [handRxByte]
    split
    · exact .inl rfl
    · rename_i fits
      exact .inr ⟨opened, by simpa using fits⟩
  | start :: kind :: length :: payload =>
    obtain ⟨opened, held⟩ := part.resolve_left nofun
    obtain ⟨fits, -⟩ := held length rfl
    dsimp only [handRxByte]
    split
    · rename_i short
      refine .inr ⟨opened, ?_⟩
      simp
      omega
    · split <;> exact .inl rfl

theorem partialReport_byte {buffer : List Byte} (part : PartialReport buffer) (b : Byte) :
    PartialReport (sectionRxByte buffer b).1 := by
  match buffer with
  | [] =>
    dsimp only [sectionRxByte]
    split
    · rename_i start
      exact .inr ⟨by simp [start], by simp⟩
    · exact .inl rfl
  | [start] =>
    obtain ⟨opened, -⟩ := part.resolve_left nofun
    dsimp only [sectionRxByte]
    split
    · rename_i known
      obtain ⟨length, known⟩ := Option.isSome_iff_exists.mp known
      refine .inr ⟨opened, fun head hb => ?_⟩
      obtain rfl : b = head := by simpa using hb
      exact reportRoom_iff.mp ⟨length, known, Nat.le_add_left 2 length⟩
    · exact .inl rfl
  | start :: head :: body =>
    obtain ⟨opened, held⟩ := part.resolve_left nofun
    obtain ⟨length, known, -⟩ := reportRoom_iff.mpr (held head rfl)
    dsimp only [sectionRxByte]
    rw [known, Option.getD_some]
    split
    · rename_i short
      refine .inr ⟨opened, fun head' hb => ?_⟩
      obtain rfl : head = head' := by simpa using hb
      exact reportRoom_iff.mp ⟨length, known, by simp; omega⟩
    · split <;> exact .inl rfl

end Sys2Proof.Machine
end

section
/-! Every meaning but the ports' own and RESTART leaves both receive buffers alone (R108, R142, R156). -/

namespace Sys2Proof.Machine

variable (s : State)

/-- What the two ports have assembled. -/
def State.received (s : State) : List Byte × List Byte := (s.handRx, s.sectionRx)

/-! ### One record replaced, and what is handed on -/

@[simp] theorem setEntry_received (h : EntryNo) (e : Entry) : (s.setEntry h e).received = s.received := rfl
@[simp] theorem setSlot_received (k : SlotNo) (r : Slot) : (s.setSlot k r).received = s.received := rfl
@[simp] theorem setCross_received (x : CrossNo) (c : Crossover) : (s.setCross x c).received = s.received := rfl
@[simp] theorem emit_received (o : List Output) : (emit o s).received = s.received := rfl
@[simp] theorem echoTo_received (h : EntryNo) (body : EchoBody) : (echoTo h body s).received = s.received := rfl
@[simp] theorem queueNotice_received (body : NoticeBody) : (queueNotice body s).received = s.received := rfl
@[simp] theorem makeBinding_received (h : EntryNo) (k : SlotNo) : (makeBinding h k s).received = s.received := rfl
@[simp] theorem breakBinding_received (h : EntryNo) (k : SlotNo) : (breakBinding h k s).received = s.received := rfl
@[simp] theorem answer_received (tag code : Byte) (bytes : List Byte) :
    (answer tag code bytes s).received = s.received := rfl

/-! ### Bindings, windows and handsets (Chapters 1 to 3) -/

@[simp] theorem breakBindingOf_received (h : EntryNo) : (breakBindingOf h s).received = s.received := by
  unfold breakBindingOf
  split <;> rfl

@[simp] theorem closeWindow_received (h : EntryNo) (reason : CloseReason) :
    (closeWindow h reason s).received = s.received := by
  rw [closeWindow_eq]
  rfl

@[simp] theorem closeIfOpen_received (h : EntryNo) (reason : CloseReason) :
    (closeIfOpen h reason s).received = s.received := by
  unfold closeIfOpen
  split <;> simp

theorem openRequest_received (h : EntryNo) : (openRequest h s).received = s.received := by
  unfold openRequest
  split
  · simp
  · unfold openWindow
    split <;> rfl

@[simp] theorem pairSighting_received (slot : Option SlotNo) : (pairSighting slot s).received = s.received := by
  unfold pairSighting
  split
  · split <;> simp
  all_goals rfl

theorem acceptSample_received (h : EntryNo) (e : Enrolled) (m : Sample) :
    (acceptSample h e m s).received = s.received := by
  have pressed (bound : Option SlotNo) (press lc : Bool) (t : State) :
      (handLc bound press lc t).received = t.received := by
    rw [handLc_eq]
    cases bound <;> rfl
  have paired (press window : Bool) (t : State) : (handPair h press window t).received = t.received := by
    unfold handPair
    split
    · split <;> exact openRequest_received t h
    · rfl
  simp only [acceptSample, pressed, paired]
  split <;> rfl

theorem knownSample_received (h : EntryNo) (e : Enrolled) (m : Sample) :
    (knownSample h e m s).received = s.received := by
  unfold knownSample
  split
  · split
    · rfl
    · exact acceptSample_received s h e m
  · exact acceptSample_received s h e m

theorem routeSample_received (payload : List Byte) : (routeSample payload s).received = s.received := by
  unfold routeSample
  split
  · dsimp only
    split
    · rfl
    · unfold takeSample
      split
      · split
        · exact knownSample_received s _ _ _
        · rfl
      · unfold unknownSample
        split
        · split
          · exact openRequest_received _ _
          · rfl
        · rfl
  · rfl

theorem loseHandset_received {h : EntryNo} {e : Enrolled} (he : s.entry h = some e) (window : Bool) :
    (loseHandset h e window s).received = s.received := by
  rw [loseHandset_eq s he]
  cases hb : e.bound <;> simp [lostFrom, hb] <;> rfl

theorem releaseHandset_received (h : EntryNo) : (releaseHandset h s).received = s.received := by
  simp [releaseHandset]

theorem bindHandset_received (h : EntryNo) (k : SlotNo) : (bindHandset h k s).received = s.received := by
  have taken (t : State) : (takeFromOther h k t).received = t.received := by
    unfold takeFromOther
    split
    · split <;> rfl
    all_goals rfl
  have broken (t : State) : (breakOther h k t).received = t.received := by
    unfold breakOther
    split
    · split <;> rfl
    · rfl
  simp [bindHandset, taken, broken]

theorem unbindSlot_received (k : SlotNo) : (unbindSlot k s).received = s.received := by
  unfold unbindSlot
  split
  · simp
  all_goals rfl

/-! ### Crossovers (Chapters 5, 6 and 9) -/

@[simp] theorem decideReturn_received (x : CrossNo) : (decideReturn x s).received = s.received := by
  rw [decideReturn_eq]
  rfl

@[simp] theorem serveOwed_received : (serveOwed s).received = s.received := by
  unfold serveOwed
  split
  · rfl
  · split <;> rfl

@[simp] theorem enterFault_received (x : CrossNo) (cause : FaultCause) :
    (enterFault x cause s).received = s.received := by
  simp only [enterFault]
  split
  · exact serveOwed_received _
  · rfl

theorem loadConfig_received (x : CrossNo) (g : CrossConfig) : (loadConfig x g s).received = s.received := by
  cases atOnce : (s.cross x).state.appliesAtOnce with
  | false => rw [loadConfig_staged atOnce]; rfl
  | true =>
    obtain ⟨state, status, queue, applied, -⟩ := applied_asStated (g := g) atOnce
    rw [applied]
    rfl

@[simp] theorem becomeOpen_received (x : CrossNo) : (becomeOpen x s).received = s.received := by
  cases staged : (s.cross x).staged with
  | none => rw [becomeOpen_plain s x staged]; rfl
  | some g => rw [becomeOpen_staged s x staged]; rfl

@[simp] theorem becomeHolding_received (x : CrossNo) : (becomeHolding x s).received = s.received := by
  rw [becomeHolding_eq]
  split <;> simp

@[simp] theorem emptiedQueue_received (x : CrossNo) : (emptiedQueue x s).received = s.received := by
  simp only [emptiedQueue]
  split
  · simp
  · simp
  · split <;> rfl
  all_goals rfl

@[simp] theorem completePassage_received (x : CrossNo) (e : ZoneEntry) (rest : List ZoneEntry)
    (outcome : PassageOutcome) (exit : Option (Time × ExitSensor)) :
    (completePassage x e rest outcome exit s).received = s.received := by
  have changed (slot : Option SlotNo) (t : State) : (handChanged slot t).received = t.received := by
    unfold handChanged
    split
    · split <;> rfl
    · rfl
  rw [completePassage_eq, emit_received]
  dsimp only
  split
  · exact changed _ _
  · rfl

@[simp] theorem removeEntry_received (x : CrossNo) (e : ZoneEntry) (rest : List ZoneEntry) (outcome : PassageOutcome)
    (exit : Option (Time × ExitSensor)) : (removeEntry x e rest outcome exit s).received = s.received := by
  unfold removeEntry
  split <;> simp

theorem takeApproach_received (x : CrossNo) (slot : Option SlotNo) : (takeApproach x slot s).received = s.received := by
  have displacedSlot (t : State) : (displaceSlot x slot t).received = t.received := by
    unfold displaceSlot
    split
    · rfl
    · dsimp only
      split <;> simp
  have displacedHead (t : State) : (displaceHead x t).received = t.received := by
    unfold displaceHead
    split
    · split <;> simp
    · rfl
  have settled (held : Bool) (t : State) : (settle x held t).received = t.received := by
    unfold settle
    split <;> simp
  have appended (t : State) : (appendEntry x slot t).received = t.received := by
    by_cases h : (t.cross x).state = .opened ∧ (approachDecided x slot t).2 = .throwing
    · rw [appendEntry_throw t x slot h]; rfl
    · rw [appendEntry_plain t x slot h]; rfl
  have entering (t : State) : (enter x slot t).received = t.received := by
    unfold enter
    split
    · exact appended t
    · rfl
  rw [takeApproach_eq, entering, settled, displacedHead, displacedSlot]

theorem takeExit_received (x : CrossNo) (sensor : ExitSensor) (slot : Option SlotNo) :
    (takeExit x sensor slot s).received = s.received := by
  simp only [takeExit]
  split <;> split <;> simp

@[simp] theorem crossSighting_received (x : CrossNo) (sensor : Sensor) (slot : Option SlotNo) :
    (crossSighting x sensor slot s).received = s.received := by
  unfold crossSighting
  split
  · split
    · exact takeApproach_received s x slot
    · exact takeExit_received s x _ slot
  · rfl

theorem takeSighting_received (x : CrossNo) (sensor p w : Byte) :
    (takeSighting x sensor p w s).received = s.received := by
  have handed (sensor : Sensor) (slot : Option SlotNo) : (handSighting x sensor slot s).received = s.received := by
    have drawn : s.draw.received = s.received := rfl
    unfold handSighting
    split
    · split <;> simp [drawn]
    · simp
  unfold takeSighting
  split
  · rfl
  · split
    · rfl
    · exact handed _ _

theorem takePosition_received (x : CrossNo) (pos : Position) : (takePosition x pos s).received = s.received := by
  have confirmed : (confirmCommand x s).received = s.received := rfl
  rcases position_decided (s.cross x) pos with agrees | contradicts | ⟨kind, deadline, sent, ⟨h, rfl⟩ | ⟨h, rfl⟩⟩
  · rw [takePosition_agrees agrees]
  · rw [takePosition_contradicts contradicts, enterFault_received]
  · rw [takePosition_confirmsThrow sent h, confirmThrow]
    split <;> simp [confirmed]
  · rw [takePosition_confirmsReturn sent h, confirmReturn]
    split <;> simp [confirmed]

theorem elapseGuard_received (x : CrossNo) : (elapseGuard x s).received = s.received := by
  simp only [elapseGuard]
  split <;> simp

theorem foldl_received {f : State → CrossNo → State} (step : ∀ s x, (f s x).received = s.received)
    (xs : List CrossNo) : (xs.foldl f s).received = s.received := by
  induction xs generalizing s with
  | nil => rfl
  | cons x xs ih => exact (ih (f s x)).trans (step s x)

theorem leaveCutoff_received : (leaveCutoff s).received = s.received := by
  have dark (t : State) (x : CrossNo) : (resyncDark t x).received = t.received := by
    simp only [resyncDark]
    split
    · split <;> simp
    · rfl
  rw [leaveCutoff, queueNotice_received, foldl_received _ dark]
  rfl

theorem formGate_received (p : Fin 12) : (formGate p s).received = s.received := by
  unfold formGate
  split
  · rfl
  · exact serveOwed_received _

theorem formDrive_received (k : SlotNo) : (formDrive k s).received = s.received := by
  have applied : (applyPending k s).received = s.received := by
    simp only [applyPending]
    split <;> rfl
  exact applied

/-- RESTART drops what both ports have assembled (R156). -/
theorem restartPart_received : (restartPart s).received = ([], []) := by
  rw [restartPart_eq, queueNotice_received]
  by_cases cut : (forgotten s).track = .cutoff
  · rw [restartCrossovers_cutoff _ cut]; rfl
  · rw [restartCrossovers_running _ cut, foldl_received _ decideReturn_received]; rfl

end Sys2Proof.Machine
end

section
/-! The requests, the commands and the steps keep what the two receive buffers may hold (R108, R142). -/

namespace Sys2Proof.Machine

variable {s : State}

/-! ### Requests (R150, R151) -/

section
variable (s : State) (tag : Byte) (args : List Byte)

theorem statusRequest_received : (statusRequest tag args s).received = s.received := by
  unfold statusRequest
  split <;> rfl

theorem readHandsetRequest_received : (readHandsetRequest tag args s).received = s.received := by
  unfold readHandsetRequest
  split
  · split <;> rfl
  · rfl

theorem readSlotRequest_received : (readSlotRequest tag args s).received = s.received := by
  unfold readSlotRequest
  split
  · split <;> rfl
  · rfl

theorem readCrossoverRequest_received : (readCrossoverRequest tag args s).received = s.received := by
  unfold readCrossoverRequest
  split
  · split <;> rfl
  · rfl

theorem readWindowsRequest_received : (readWindowsRequest tag args s).received = s.received := by
  unfold readWindowsRequest
  split <;> rfl

theorem profileFirstRequest_received : (profileFirstRequest tag args s).received = s.received := by
  unfold profileFirstRequest
  split <;> rfl

theorem profileSecondRequest_received : (profileSecondRequest tag args s).received = s.received := by
  unfold profileSecondRequest
  split
  · split <;> rfl
  · rfl

theorem bindRequest_received : (bindRequest tag args s).received = s.received := by
  unfold bindRequest
  split
  · split
    · split
      · rfl
      · split
        · rfl
        · exact (answer_received _ _ _ _).trans (bindHandset_received s _ _)
    · rfl
  · rfl

theorem unbindRequest_received : (unbindRequest tag args s).received = s.received := by
  unfold unbindRequest
  split
  · split
    · exact (answer_received _ _ _ _).trans (unbindSlot_received s _)
    · rfl
  · rfl

theorem forgetRequest_received : (forgetRequest tag args s).received = s.received := by
  unfold forgetRequest
  split
  · split
    · split
      · rfl
      · rw [answer_received, releaseHandset_received, closeIfOpen_received]
    · rfl
  · rfl

theorem setPaceRequest_received : (setPaceRequest tag args s).received = s.received := by
  unfold setPaceRequest
  split
  · split
    · split <;> rfl
    · rfl
  · rfl

theorem wishRequest_received : (wishRequest tag args s).received = s.received := by
  unfold wishRequest
  split
  · split
    · split <;> rfl
    · rfl
  · rfl

theorem beaconRequest_received : (beaconRequest tag args s).received = s.received := by
  unfold beaconRequest
  split
  · split
    · dsimp only
      split <;> rfl
    · rfl
  · rfl

theorem beaconClearRequest_received : (beaconClearRequest tag args s).received = s.received := by
  unfold beaconClearRequest
  split
  · split <;> rfl
  · rfl

theorem toleranceRequest_received : (toleranceRequest tag args s).received = s.received := by
  unfold toleranceRequest
  split
  · dsimp only
    split <;> rfl
  · rfl

theorem crossoverSetRequest_received : (crossoverSetRequest tag args s).received = s.received := by
  unfold crossoverSetRequest
  split
  · split
    · exact (answer_received _ _ _ _).trans (loadConfig_received s _ _)
    · rfl
  · rfl

theorem crossoverClearRequest_received : (crossoverClearRequest tag args s).received = s.received := by
  unfold crossoverClearRequest
  split
  · split
    · split
      · rfl
      · split
        · rfl
        · exact (answer_received _ _ _ _).trans (decideReturn_received s _)
    · rfl
  · rfl

theorem trackRequest_received : (trackRequest tag args s).received = s.received := by
  unfold trackRequest
  split
  · split <;> rfl
  · rfl

theorem clearCutoffRequest_received : (clearCutoffRequest tag args s).received = s.received := by
  unfold clearCutoffRequest
  split
  · split
    · rfl
    · split
      · rfl
      · exact (answer_received _ _ _ _).trans (leaveCutoff_received s)
  · rfl

theorem linkSetRequest_received : (linkSetRequest tag args s).received = s.received := by
  unfold linkSetRequest
  split <;> rfl
end

/-! ### The invariant (R108, R142) -/

theorem receiveInv_congr {t : State} (same : t.received = s.received) (inv : ReceiveInv s) : ReceiveInv t := by
  obtain ⟨hand, report⟩ : t.handRx = s.handRx ∧ t.sectionRx = s.sectionRx := Prod.ext_iff.mp same
  rwa [ReceiveInv, hand, report]

theorem handTaken_receiveInv (inv : ReceiveInv s) : ReceiveInv s.handTaken := ⟨.inl rfl, inv.2⟩

theorem reportTaken_receiveInv (inv : ReceiveInv s) : ReceiveInv s.reportTaken := ⟨inv.1, .inl rfl⟩

theorem restartRequest_receiveInv (tag : Byte) (args : List Byte) (inv : ReceiveInv s) :
    ReceiveInv (restartRequest tag args s) := by
  unfold restartRequest
  split
  · exact receiveInv_congr (s := s.handTaken.reportTaken) (restartPart_received s) ⟨.inl rfl, .inl rfl⟩
  · exact inv

/-- A code of Table 12-4 names its request, and every other is refused (R151 ①). -/
theorem requestByCode_receiveInv (tag code : Byte) (args : List Byte) (inv : ReceiveInv s) :
    ReceiveInv (requestByCode tag code args s) := by
  have same {t : State} (h : t.received = s.received) : ReceiveInv t := receiveInv_congr h inv
  unfold requestByCode
  split
  · exact same (statusRequest_received ..)
  · exact same (readHandsetRequest_received ..)
  · exact same (readSlotRequest_received ..)
  · exact same (readCrossoverRequest_received ..)
  · exact same (readWindowsRequest_received ..)
  · exact same (profileFirstRequest_received ..)
  · exact same (profileSecondRequest_received ..)
  · exact same (bindRequest_received ..)
  · exact same (unbindRequest_received ..)
  · exact same (forgetRequest_received ..)
  · exact same (setPaceRequest_received ..)
  · exact same (wishRequest_received ..)
  · exact same (beaconRequest_received ..)
  · exact same (beaconClearRequest_received ..)
  · exact same (toleranceRequest_received ..)
  · exact same (crossoverSetRequest_received ..)
  · exact same (crossoverClearRequest_received ..)
  · exact same (trackRequest_received ..)
  · exact same (clearCutoffRequest_received ..)
  · exact same (linkSetRequest_received ..)
  · exact restartRequest_receiveInv tag args inv
  · exact inv

/-- A request is taken with room for its reply, or discarded (R144). -/
theorem onRequest_receiveInv (tag code : Byte) (args : List Byte) (inv : ReceiveInv s) :
    ReceiveInv (onRequest (requestByCode tag code args) s) := by
  unfold onRequest
  dsimp only
  split
  · exact requestByCode_receiveInv tag code args (handTaken_receiveInv inv)
  · exact handTaken_receiveInv inv

/-! ### The two lines (R108, R142) -/

theorem routeFrame_receiveInv (kind : Byte) (payload : List Byte) (inv : ReceiveInv s) :
    ReceiveInv (routeFrame kind payload s) := by
  have taken := handTaken_receiveInv inv
  unfold routeFrame
  split
  · exact receiveInv_congr (routeSample_received _ payload) taken
  · split
    · split
      · exact onRequest_receiveInv _ _ _ inv
      · exact taken
    · exact taken

theorem receiveHand_receiveInv (bytes : List Byte) (inv : ReceiveInv s) : ReceiveInv (receiveHand bytes s) := by
  induction bytes generalizing s with
  | nil => exact inv
  | cons b rest ih =>
    have part := partialHandFrame_byte inv.1 b
    unfold receiveHand
    split
    · rename_i buffer taken
      exact ih ⟨by simpa only [taken] using part, inv.2⟩
    · rename_i buffer kind payload taken
      exact ih (routeFrame_receiveInv kind payload ⟨by simpa only [taken] using part, inv.2⟩)

theorem routeReport_received (r : Report) : (routeReport r s).received = s.received := by
  cases r with
  | sighting x sensor p w => exact takeSighting_received s x sensor p w
  | position x pos => exact takePosition_received s x pos

theorem receiveSection_receiveInv (bytes : List Byte) (inv : ReceiveInv s) : ReceiveInv (receiveSection bytes s) := by
  induction bytes generalizing s with
  | nil => exact inv
  | cons b rest ih =>
    have part := partialReport_byte inv.2 b
    unfold receiveSection
    split
    · rename_i buffer taken
      exact ih ⟨inv.1, by simpa only [taken] using part⟩
    · rename_i buffer r taken
      exact ih (receiveInv_congr (routeReport_received r) ⟨inv.1, by simpa only [taken] using part⟩)

/-! ### Commands and steps -/

variable {t : State}

theorem silenceExpiry_received {h : EntryNo} (ht : exec (.silenceExpiry h) s = .next t) : t.received = s.received := by
  obtain rfl := Host.Outcome.next.inj ht
  split
  · split
    · split
      · exact loseHandset_received s ‹_› _
      · rfl
    · rfl
  · rfl

theorem releaseExpiry_received {h : EntryNo} (ht : exec (.releaseExpiry h) s = .next t) : t.received = s.received := by
  obtain rfl := Host.Outcome.next.inj ht
  split
  · split
    · split
      · exact releaseHandset_received s h
      · rfl
    all_goals rfl
  · rfl

theorem windowExpiry_received {h : EntryNo} (ht : exec (.windowExpiry h) s = .next t) : t.received = s.received := by
  obtain rfl := Host.Outcome.next.inj ht
  split
  · split
    · exact closeWindow_received s h _
    · rfl
  · rfl

theorem clearDeadlineExpiry_received {x : CrossNo} {i : Fin 4} (ht : exec (.clearDeadlineExpiry x i) s = .next t) :
    t.received = s.received := by
  obtain rfl := Host.Outcome.next.inj ht
  split
  · split
    · exact removeEntry_received s x _ _ _ _
    · rfl
  · rfl

theorem guardElapse_received {x : CrossNo} (ht : exec (.guardElapse x) s = .next t) : t.received = s.received := by
  obtain rfl := Host.Outcome.next.inj ht
  split
  · exact elapseGuard_received s x
  · rfl

theorem confirmDeadlineExpiry_received {x : CrossNo} (ht : exec (.confirmDeadlineExpiry x) s = .next t) :
    t.received = s.received := by
  obtain rfl := Host.Outcome.next.inj ht
  split
  · split
    · exact enterFault_received s x .confirmTimeout
    · rfl
  all_goals rfl

theorem faultLineAsserted_received (ht : exec .faultLineAsserted s = .next t) : t.received = s.received := by
  obtain rfl := Host.Outcome.next.inj ht
  split <;> rfl

theorem headFrame_received (ht : exec .headFrame s = .next t) : t.received = s.received := by
  obtain rfl := Host.Outcome.next.inj ht
  split <;> rfl

theorem driveFrame_received {k : SlotNo} (ht : exec (.driveFrame k) s = .next t) : t.received = s.received := by
  obtain rfl := Host.Outcome.next.inj ht
  split
  · exact formDrive_received s k
  · rfl

theorem gateFrame_received (ht : exec .gateFrame s = .next t) : t.received = s.received := by
  obtain rfl := Host.Outcome.next.inj ht
  split
  · exact formGate_received s 9
  · split
    · exact formGate_received s 10
    · rfl

theorem codeFrame_received (ht : exec .codeFrame s = .next t) : t.received = s.received := by
  obtain rfl := Host.Outcome.next.inj ht
  split <;> rfl

/-- A request command is what its code of Table 12-4 names. -/
theorem request_receiveInv {tag code : Byte} {args : List Byte} (inv : ReceiveInv s)
    (ht : (Host.Outcome.next (onRequest (requestByCode tag code args) s) : Result) = .next t) : ReceiveInv t :=
  Host.Outcome.next.inj ht ▸ onRequest_receiveInv tag code args inv

/-- Every command leaves in the two receive buffers a frame in part. -/
theorem exec_receiveInv {c : Instr} (inv : ReceiveInv s) (ht : exec c s = .next t) : ReceiveInv t := by
  have same (h : t.received = s.received) : ReceiveInv t := receiveInv_congr h inv
  cases c with
  | sample payload =>
    exact Host.Outcome.next.inj ht ▸ receiveInv_congr (routeSample_received _ payload) (handTaken_receiveInv inv)
  | silenceExpiry h => exact same (silenceExpiry_received ht)
  | releaseExpiry h => exact same (releaseExpiry_received ht)
  | windowExpiry h => exact same (windowExpiry_received ht)
  | sighting x sensor p w =>
    exact Host.Outcome.next.inj ht ▸
      receiveInv_congr (takeSighting_received _ x sensor p w) (reportTaken_receiveInv inv)
  | clearDeadlineExpiry x i => exact same (clearDeadlineExpiry_received ht)
  | guardElapse x => exact same (guardElapse_received ht)
  | position x pos =>
    exact Host.Outcome.next.inj ht ▸ receiveInv_congr (takePosition_received _ x pos) (reportTaken_receiveInv inv)
  | confirmDeadlineExpiry x => exact same (confirmDeadlineExpiry_received ht)
  | sectionFrameDiscard bytes => exact Host.Outcome.next.inj ht ▸ receiveSection_receiveInv bytes inv
  | sectionByteTimeout => exact Host.Outcome.next.inj ht ▸ reportTaken_receiveInv inv
  | handLinkFrameDiscard bytes => exact Host.Outcome.next.inj ht ▸ receiveHand_receiveInv bytes inv
  | handLinkByteTimeout => exact Host.Outcome.next.inj ht ▸ handTaken_receiveInv inv
  | unknownRequest tag code args => exact request_receiveInv inv ht
  | status tag args => exact request_receiveInv (code := 0x01) inv ht
  | readHandset tag args => exact request_receiveInv (code := 0x02) inv ht
  | readSlot tag args => exact request_receiveInv (code := 0x03) inv ht
  | readCrossover tag args => exact request_receiveInv (code := 0x04) inv ht
  | readWindows tag args => exact request_receiveInv (code := 0x05) inv ht
  | profileFirst tag args => exact request_receiveInv (code := 0x10) inv ht
  | profileSecond tag args => exact request_receiveInv (code := 0x11) inv ht
  | bind tag args => exact request_receiveInv (code := 0x20) inv ht
  | unbind tag args => exact request_receiveInv (code := 0x21) inv ht
  | forget tag args => exact request_receiveInv (code := 0x22) inv ht
  | setPace tag args => exact request_receiveInv (code := 0x23) inv ht
  | wish tag args => exact request_receiveInv (code := 0x24) inv ht
  | beacon tag args => exact request_receiveInv (code := 0x30) inv ht
  | beaconClear tag args => exact request_receiveInv (code := 0x31) inv ht
  | tolerance tag args => exact request_receiveInv (code := 0x32) inv ht
  | crossoverSet tag args => exact request_receiveInv (code := 0x40) inv ht
  | crossoverClear tag args => exact request_receiveInv (code := 0x41) inv ht
  | track tag args => exact request_receiveInv (code := 0x50) inv ht
  | clearCutoff tag args => exact request_receiveInv (code := 0x51) inv ht
  | linkSet tag args => exact request_receiveInv (code := 0x60) inv ht
  | restart tag args => exact request_receiveInv (code := 0x7F) inv ht
  | powerOnReset asserted => exact Host.Outcome.next.inj ht ▸ poweredOn_receiveInv asserted s
  | faultLineAsserted => exact same (faultLineAsserted_received ht)
  | faultLineReleased => exact Host.Outcome.next.inj ht ▸ inv
  | headFrame => exact same (headFrame_received ht)
  | driveFrame k => exact same (driveFrame_received ht)
  | gateFrame => exact same (gateFrame_received ht)
  | codeFrame => exact same (codeFrame_received ht)
  | transmitterFrameEnd => exact Host.Outcome.next.inj ht ▸ inv

/-- Settles O59: each discard leaves the hunting port as it was, a timeout empties a buffer, and a step is one
millisecond, which moves TIME alone, or a command. -/
theorem linesDiscardWhatFailsTheirChecks : Obligations.LinesDiscardWhatFailsTheirChecks := by
  unfold Obligations.LinesDiscardWhatFailsTheirChecks
  have next {t u : State} (h : t = u) : (Host.Outcome.next t : Result) = .next u := congrArg _ h
  refine ⟨fun s => ⟨fun hunting => ⟨fun bytes absent => ?_, fun kind length overlong => ?_,
    fun kind check payload fits bad => ?_, fun kind payload fits unsampled unrequested => ?_⟩, rfl⟩,
    fun s => ⟨fun hunting => ⟨fun bytes absent => ?_, fun head other => ?_,
    fun head a b c check sighting bad => ?_, fun head a check position bad => ?_⟩, rfl⟩, fun s t inv ht => ?step⟩
  · exact next (receiveHand_noStart hunting absent)
  · exact next (receiveHand_overlong hunting kind overlong)
  · exact next (receiveHand_badCheck hunting kind fits bad)
  · exact next ((receiveHand_handFrame hunting kind fits).trans
      (routeFrame_discards hunting unsampled unrequested))
  · exact next (receiveSection_noStart hunting absent)
  · exact next (receiveSection_otherKind hunting other)
  · exact next (receiveSection_badReport (body := [a, b, c]) hunting (bodyLength_sighting sighting)
      (.inl (mt eq_checkByte_iff.mp bad)))
  · exact next (receiveSection_badReport (body := [a]) hunting (bodyLength_position position)
      (bad.imp (mt eq_checkByte_iff.mp) fun unnamed => congrArg (Option.map _) (positionArg_none unnamed)))
  case step =>
    unfold step at ht
    split at ht
    · exact Host.Outcome.next.inj ht ▸ inv
    · rename_i c rest _
      exact exec_receiveInv (s := { s with pending := rest }) inv ht

end Sys2Proof.Machine
end

section
/-! The drive frame (R112, R113, R126): the record it shapes, its step by the rows of Table 7-2, and the step's bounds. -/

namespace Sys2Proof.Machine

variable {s : State} {k : SlotNo}

/-! ### The pending profile (R21, R22) -/

/-- The record of slot `k` with its pending profile, if there is one, become the active one (R112 ①). -/
def profileApplied (k : SlotNo) (s : State) : Slot :=
  { s.slot k with
    active := (s.slot k).pendingProfile.getD (s.slot k).active
    pendingProfile := none
    wish := wishAfterPolicy s (s.slot k) (s.slot k).active.policy
      ((s.slot k).pendingProfile.getD (s.slot k).active).policy }

section
variable {r : Slot} {old new : Policy}

theorem wishAfterPolicy_kept (same : new ≠ .hold ∨ old = .hold) : wishAfterPolicy s r old new = r.wish :=
  if_neg fun ⟨hold, changed⟩ => same.elim (· hold) changed

theorem wishAfterPolicy_handset (hold : new = .hold) (changed : old ≠ .hold) {h : EntryNo} {e : Enrolled}
    (source : r.source = .handset h) (he : s.entry h = some e) :
    wishAfterPolicy s r old new = (Entry.isLive (some e) && e.sample.lc) := by
  simp only [wishAfterPolicy, if_pos (And.intro hold changed), source, he]

theorem wishAfterPolicy_unheard (hold : new = .hold) (changed : old ≠ .hold)
    (unheard : ∀ h, r.source ≠ .handset h) : wishAfterPolicy s r old new = false := by
  unfold wishAfterPolicy
  rw [if_pos ⟨hold, changed⟩]
  split
  · exact absurd ‹_› (unheard _)
  · rfl
  · rfl
end

/-- An enrolled entry is LIVE or LOST (Table 1-2). -/
theorem isLive_eq_not_isLost (e : Enrolled) : Entry.isLive (some e) = !Entry.isLost (some e) := by
  simp only [Entry.isLive, Entry.isLost]
  cases e.phase <;> rfl

/-- Without a pending profile the active profile stays, and with it its policy and the wish. -/
theorem applyPending_eq : applyPending k s = s.setSlot k (profileApplied k s) := by
  simp only [applyPending, profileApplied]
  split
  next pending =>
    simp only [pending, Option.getD_none, wishAfterPolicy_kept (em' _)]
    rw [← pending, setSlot_slot]
  next pending => rw [pending, Option.getD_some]

/-! ### The frame in its place and out of it (R112, R126) -/

/-- The step of slot `k`'s next drive frame, a pending profile applied. -/
def frameStep (k : SlotNo) (s : State) : Nat := driveStep (s.setSlot k (profileApplied k s)) k

/-- The drive frame in its place writes the record it shaped, with the step as its last step, and carries the two
(R112, R122). -/
theorem driveFrame_forms (running : s.railFresh = false) (place : s.framePos.val = k.val) :
    exec (.driveFrame k) s = .next { s.setSlot k { profileApplied k s with lastStep := frameStep k s } with
      framePos := k.castSucc.succ.castLE (by decide)
      railLine := some (.drive k (frameStep k s) (decide (frameStep k s = 0)) (profileApplied k s).wish
        (s.slot k).failsafe (decide ((s.slot k).source ≠ .none))) } := by
  have formed : frameFormedAt s k.val = true := by simp [frameFormedAt, running, place]
  have bound : ((s.slot k).source != .none) = decide ((s.slot k).source ≠ .none) := by
    cases (s.slot k).source <;> rfl
  refine congrArg Host.Outcome.next ((if_pos formed).trans ?_)
  simp only [formDrive, applyPending_eq, slot_setSlot_self, setSlot_setSlot, putFrame, ← running, frameStep]
  rw [← bound]
  rfl

/-- The fixed order of R126, as log entry 4 reads it. -/
theorem driveFrame_outOfPlace (away : s.railFresh = true ∨ s.framePos.val ≠ k.val) :
    exec (.driveFrame k) s = .next s := by
  have unformed : ¬ frameFormedAt s k.val = true := by
    rcases away with fresh | elsewhere
    · simp [frameFormedAt, fresh]
    · simp [frameFormedAt, elsewhere]
  exact congrArg Host.Outcome.next (if_neg unformed)

/-! ### The rows of Table 7-2 (R113) -/

theorem driveStep_stopped (stopped : s.track ≠ .run) : driveStep s k = 0 := by
  unfold driveStep
  cases track : s.track with
  | run => exact absurd track stopped
  | halt => rfl
  | cutoff => rfl

section
variable {r : Slot} (record : s.slot k = r) (run : s.track = .run)
include record run

theorem driveStep_none (source : r.source = .none) : driveStep s k = 0 := by
  simp only [driveStep, record, run, source]

theorem driveStep_failsafe {h : EntryNo} (source : r.source = .handset h) (lost : r.failsafe = true) :
    driveStep s k = decayed r.active s.cap r.lastStep := by
  simp only [driveStep, record, run, source, lost, if_true]

theorem driveStep_handset {h : EntryNo} {trigger : Nat} (source : r.source = .handset h) (heard : r.failsafe = false)
    (asked : storedTrigger s h = trigger) :
    driveStep s k = riseLimited r.active r.lastStep (triggerTarget r.active s.cap trigger) := by
  simp only [driveStep, record, run, source, heard, asked, Bool.false_eq_true, if_false]

theorem driveStep_pace {n : Nat} (source : r.source = .pace n) :
    driveStep s k = riseLimited r.active r.lastStep (paceTarget r.active s.cap n) := by
  simp only [driveStep, record, run, source]
end

/-- At or below the deadband nothing is left of the trigger, as the difference of natural numbers says (R114). -/
theorem deadbandStage_eq (db t : Nat) : deadbandStage db t = t - db := by
  unfold deadbandStage
  split
  · rfl
  · omega

/-- A slot's source names an enrolled entry (R17), which stores a trigger. -/
theorem storedTrigger_of_source (inv : BindingInv s) {h : EntryNo} (source : (s.slot k).source = .handset h) :
    ∃ e, s.entry h = some e ∧ storedTrigger s h = e.sample.trigger.toNat := by
  have bound := (source_iff inv).mp source
  cases he : s.entry h with
  | none => simp [he, Entry.boundSlot] at bound
  | some e => exact ⟨e, rfl, by simp only [storedTrigger, he]⟩

/-! ### The bounds of a step (R116 to R119) -/

theorem clampStep_le_asked (p : Profile) (cap q : Nat) : clampStep p cap q ≤ q :=
  (min_le_left _ _).trans (min_le_left _ _)

theorem clampStep_le_ceil (p : Profile) (cap q : Nat) : clampStep p cap q ≤ p.ceil :=
  (min_le_left _ _).trans (min_le_right _ _)

theorem clampStep_le_cap (p : Profile) (cap q : Nat) : clampStep p cap q ≤ cap := min_le_right _ _

/-- A step within the ceiling and the cap that climbs from the last step by the rise limit at most. -/
def StepBounded (p : Profile) (cap last step : Nat) : Prop := step ≤ p.ceil ∧ step ≤ cap ∧ step ≤ last + p.rise

section
variable (p : Profile) (cap last : Nat)

theorem stepBounded_zero : StepBounded p cap last 0 := ⟨Nat.zero_le _, Nat.zero_le _, Nat.zero_le _⟩

/-- A decayed step does not rise at all (R119). -/
theorem stepBounded_decayed : StepBounded p cap last (decayed p cap last) :=
  ⟨clampStep_le_ceil p cap _, clampStep_le_cap p cap _,
    (clampStep_le_asked p cap _).trans ((Nat.sub_le last _).trans (Nat.le_add_right last _))⟩

theorem stepBounded_riseLimited (q : Nat) : StepBounded p cap last (riseLimited p last (clampStep p cap q)) :=
  ⟨(min_le_left _ _).trans (clampStep_le_ceil p cap q), (min_le_left _ _).trans (clampStep_le_cap p cap q),
    min_le_right _ _⟩
end

/-- Every row of Table 7-2 keeps the bounds. -/
theorem driveStep_bounded {r : Slot} (record : s.slot k = r) :
    StepBounded r.active s.cap r.lastStep (driveStep s k) := by
  by_cases run : s.track = .run
  case neg => exact driveStep_stopped run ▸ stepBounded_zero _ _ _
  case pos =>
    cases source : r.source with
    | none => exact driveStep_none record run source ▸ stepBounded_zero _ _ _
    | pace n => exact driveStep_pace record run source ▸ stepBounded_riseLimited _ _ _ _
    | handset h =>
      cases failsafe : r.failsafe with
      | true => exact driveStep_failsafe record run source failsafe ▸ stepBounded_decayed _ _ _
      | false => exact driveStep_handset record run source failsafe rfl ▸ stepBounded_riseLimited _ _ _ _

/-- Outside RUN the step is 0 (R121). -/
theorem frameStep_stopped (stopped : s.track ≠ .run) : frameStep k s = 0 :=
  driveStep_stopped (s := s.setSlot k (profileApplied k s)) stopped

/-- Settles O55: the frame in its place carries the step found for the record with its profile applied. -/
theorem driveStepStaysWithinItsBounds : Obligations.DriveStepStaysWithinItsBounds := by
  unfold Obligations.DriveStepStaysWithinItsBounds
  intro s t k ht
  by_cases place : s.railFresh = false ∧ s.framePos.val = k.val
  case pos =>
    obtain ⟨running, here⟩ := place
    obtain rfl := Host.Outcome.next.inj ((driveFrame_forms running here).symm.trans ht)
    have written := slot_setSlot_self s k { profileApplied k s with lastStep := frameStep k s }
    obtain ⟨ceil, cap, rise⟩ := driveStep_bounded (slot_setSlot_self s k (profileApplied k s))
    refine .inl ⟨running, here, frameStep k s, (profileApplied k s).wish, rfl, congrArg Slot.lastStep written, ?_⟩
    exact ⟨ceil.trans_eq (congrArg (·.active.ceil) written).symm, cap, frameStep_stopped,
      rise.trans_eq (congrArg ((s.slot k).lastStep + ·.active.rise) written).symm⟩
  case neg =>
    have away : s.railFresh = true ∨ s.framePos.val ≠ k.val := by simpa [imp_iff_not_or] using place
    exact .inr ⟨away, (Host.Outcome.next.inj ((driveFrame_outOfPlace away).symm.trans ht)).symm⟩

/-- Settles O54: `driveFrame_forms` gives the whole next state; its step is read off the rows of Table 7-2 and its wish
off the policies. -/
theorem driveFrameFollowsTheTable : Obligations.DriveFrameFollowsTheTable := by
  unfold Obligations.DriveFrameFollowsTheTable
  rintro s k _ _ trigger _ _ _ inv running place rfl rfl stored rfl rfl rfl
  have applied := slot_setSlot_self s k (profileApplied k s)
  refine ⟨frameStep k s, (profileApplied k s).wish, driveFrame_forms running place, frameStep_stopped,
    driveStep_none applied, fun h run source lost => driveStep_failsafe applied run source lost,
    fun h run source heard => ?trigger, fun n run source => driveStep_pace applied run source,
    fun hold changed h e source he => ?wish, wishAfterPolicy_unheard, wishAfterPolicy_kept⟩
  case trigger =>
    obtain ⟨e, he, held⟩ := storedTrigger_of_source inv source
    have asked : storedTrigger s h = trigger := held.trans (stored h e source he).symm
    refine (driveStep_handset applied run source heard asked).trans ?_
    rw [triggerTarget, deadbandStage_eq]
    rfl
  case wish =>
    obtain ⟨-, agrees, -⟩ := slotFits_of_bindingInv inv k
    rw [agrees h source, he, ← isLive_eq_not_isLost]
    exact wishAfterPolicy_handset hold changed source he

end Sys2Proof.Machine
end

section
/-! The layouts of Chapter 12: numbers as bytes, the codes of the tables, the payloads of outbound frames, and the
fields of rail frames. -/

namespace Sys2Proof.Machine

/-! ### Numbers as bytes, high byte first (12.1) -/

/-- The low byte of a number is its last byte. -/
theorem byte_shifted (n : Nat) (b : Byte) : byte (n * 256 + b.toNat) = b :=
  BitVec.eq_of_toNat_eq (by have := b.isLt; rw [byte, BitVec.toNat_ofNat]; omega)

/-- The number that stands before its last byte. -/
theorem shifted_div (n : Nat) (b : Byte) : (n * 256 + b.toNat) / 256 = n := by
  have := b.isLt
  omega

/-- Three bytes are the two of what stands before the last one, and the last one. -/
theorem bytes24_eq_bytes16_append (n : Nat) : bytes24 n = bytes16 (n / 256) ++ [byte n] := by
  rw [bytes24, bytes16, Nat.div_div_eq_div_mul]
  rfl

/-- Four bytes are the three of what stands before the last one, and the last one. -/
theorem bytes32_eq_bytes24_append (n : Nat) : bytes32 n = bytes24 (n / 256) ++ [byte n] := by
  rw [bytes32, bytes24, Nat.div_div_eq_div_mul, Nat.div_div_eq_div_mul]
  rfl

theorem bytes16_ofBytes (a b : Byte) : bytes16 (a.toNat * 256 + b.toNat) = [a, b] := by
  rw [bytes16, shifted_div, byte_shifted, byte, BitVec.ofNat_toNat, BitVec.setWidth_eq]

theorem bytes24_ofBytes (a b c : Byte) : bytes24 ((a.toNat * 256 + b.toNat) * 256 + c.toNat) = [a, b, c] := by
  rw [bytes24_eq_bytes16_append, shifted_div, byte_shifted, bytes16_ofBytes]
  rfl

theorem bytes32_ofBytes (a b c d : Byte) :
    bytes32 (((a.toNat * 256 + b.toNat) * 256 + c.toNat) * 256 + d.toNat) = [a, b, c, d] := by
  rw [bytes32_eq_bytes24_append, shifted_div, byte_shifted, bytes24_ofBytes]
  rfl

/-- A 16-bit word is sent as its high byte and its low byte. -/
theorem bytes16_word (hi lo : Byte) : bytes16 (hi ++ lo : BitVec 16).toNat = [hi, lo] := by
  have := hi.isLt
  have := lo.isLt
  rw [← radioId_ofBytes, be16, BitVec.toNat_ofNat, Nat.mod_eq_of_lt (by omega), bytes16_ofBytes]

/-! ### Rail frames (Table 12-13) -/

/-- A field of `v` bits put behind the fields before it: the number they spell moves up and the field is added. -/
theorem ofNat_append_ofNat {w v : Nat} (n : Nat) {m : Nat} (fits : m < 2 ^ v) :
    BitVec.ofNat w n ++ BitVec.ofNat v m = BitVec.ofNat (w + v) (n * 2 ^ v + m) := by
  have below : (BitVec.ofNat v m).toNat < 2 ^ v := (BitVec.ofNat v m).isLt
  have last : (n * 2 ^ v + m) % 2 ^ v = m := by rw [Nat.mul_add_mod_self_right, Nat.mod_eq_of_lt fits]
  have before : (n * 2 ^ v + m) / 2 ^ v = n := by
    rw [Nat.add_comm, Nat.add_mul_div_right _ _ (Nat.two_pow_pos v), Nat.div_eq_of_lt fits, Nat.zero_add]
  apply BitVec.eq_of_toNat_eq
  rw [BitVec.toNat_append, ← Nat.shiftLeft_add_eq_or_of_lt below, Nat.shiftLeft_eq, BitVec.toNat_ofNat,
    BitVec.toNat_ofNat, BitVec.toNat_ofNat, Nat.mod_eq_of_lt fits, Nat.pow_add, Nat.mul_comm (2 ^ w), Nat.mod_mul,
    last, before, Nat.mul_comm (2 ^ v), Nat.add_comm]

theorem ofBool_eq_ofNat (b : Bool) : BitVec.ofBool b = BitVec.ofNat 1 b.toNat := by cases b <;> rfl

theorem head_bits (round : BitVec 8) (track : TrackState) {cap : Nat} (fits : cap ≤ 63) :
    (RailFrame.head round track cap).bits =
      (0#2 ++ round ++ BitVec.ofNat 2 track.code ++ BitVec.ofNat 6 cap : BitVec 18) := by
  have code : track.code < 2 ^ 2 := by cases track <;> decide
  have field : round = BitVec.ofNat 8 round.toNat := by simp
  rw [field, ofNat_append_ofNat 0 round.isLt, ofNat_append_ofNat _ code, ofNat_append_ofNat _ (by omega), ← field]
  exact congrArg (BitVec.ofNat 18) (by simp only [RailFrame.kind, RailFrame.body]; omega)

theorem drive_bits (k : SlotNo) {step : Nat} (brake wish failsafe bound : Bool) (fits : step ≤ 63) :
    (RailFrame.drive k step brake wish failsafe bound).bits =
      (1#2 ++ BitVec.ofNat 6 step ++ BitVec.ofBool brake ++ BitVec.ofBool wish ++
        BitVec.ofBool failsafe ++ BitVec.ofBool bound ++ BitVec.ofNat 3 k.val ++ 0#3 : BitVec 18) := by
  have flag (b : Bool) : b.toNat < 2 ^ 1 := Bool.toNat_lt b
  simp only [ofBool_eq_ofNat]
  rw [ofNat_append_ofNat 1 (by omega), ofNat_append_ofNat _ (flag brake), ofNat_append_ofNat _ (flag wish),
    ofNat_append_ofNat _ (flag failsafe), ofNat_append_ofNat _ (flag bound), ofNat_append_ofNat _ k.isLt,
    ofNat_append_ofNat _ (by decide)]
  exact congrArg (BitVec.ofNat 18) (by simp only [RailFrame.kind, RailFrame.body]; omega)

theorem gate_bits (x : CrossNo) (kind : CommandKind) {pulse : Nat} (fits : pulse ≤ 60) :
    (RailFrame.gate (some ⟨x, kind, pulse⟩)).bits =
      (2#2 ++ BitVec.ofNat 4 x.val ++ BitVec.ofNat 2 kind.railCode ++ BitVec.ofNat 6 pulse ++ 0#4 : BitVec 18) := by
  have code : kind.railCode < 2 ^ 2 := by cases kind <;> decide
  rw [ofNat_append_ofNat 2 x.isLt, ofNat_append_ofNat _ code, ofNat_append_ofNat _ (by omega),
    ofNat_append_ofNat _ (by decide)]
  exact congrArg (BitVec.ofNat 18) (by simp only [RailFrame.kind, RailFrame.body]; omega)

theorem code_bits {c d : Nat} (cycle : c ≤ 255) (duty : d ≤ 255) :
    (RailFrame.code (some ⟨c, d⟩)).bits = (3#2 ++ BitVec.ofNat 8 c ++ BitVec.ofNat 8 d : BitVec 18) := by
  rw [ofNat_append_ofNat 3 (by omega), ofNat_append_ofNat _ (by omega)]
  exact congrArg (BitVec.ofNat 18) (by simp only [RailFrame.kind, RailFrame.body]; omega)

/-! ### Outbound frames (Tables 12-1 to 12-3) -/

/-- Every outbound frame is a start byte, what its check covers, and the check (R145). -/
theorem outFrame_bytes (f : OutFrame) : ∃ check : Byte,
    f.bytes = [0xC3, f.kind, byte f.payload.length] ++ f.payload ++ [check] ∧
      (f.kind :: byte f.payload.length :: f.payload).sum + check = 0 :=
  ⟨checkByte (f.kind :: byte f.payload.length :: f.payload), rfl, eq_checkByte_iff.mp rfl⟩

theorem echo_payload {e : Echo} {hi lo : Byte} (address : e.radioId = hi ++ lo) :
    (OutFrame.echo e).payload = [hi, lo, e.body.code, e.body.arg] := by
  rw [OutFrame.payload, address, bytes16_word]
  rfl

theorem notice_payload {n : Notice} {hi lo : Byte} (time : n.time = hi ++ lo) :
    (OutFrame.notice n).payload = [n.body.code, if n.overrun then 1 else 0, hi, lo] ++ n.body.args := by
  have flag : byteOfBits [n.overrun] = if n.overrun then 1 else 0 := by cases n.overrun <;> rfl
  rw [OutFrame.payload, flag, time, bytes16_word]
  rfl

/-- Settles O60: the bytes come from the payload lemmas and the rail bits from the lemmas on fields; what is left is
each table of codes, row by row. -/
theorem framesAreLaidOut : Obligations.FramesAreLaidOut := by
  unfold Obligations.FramesAreLaidOut
  refine ⟨outFrame_bytes, ?reply, ?echo, ?notice, ?codes,
    fun a b c d => ⟨bytes16_ofBytes a b, bytes24_ofBytes a b c, bytes32_ofBytes a b c d⟩,
    fun round track cap fits => (head_bits round track fits).trans (by cases track <;> rfl),
    fun k step brake wish failsafe bound fits => drive_bits k brake wish failsafe bound fits,
    fun x kind pulse fits => (gate_bits x kind fits).trans (by cases kind <;> rfl),
    rfl, fun c d cycle duty => code_bits cycle duty, rfl⟩
  case reply =>
    rintro tag code status bytes _ rfl
    exact ⟨rfl, by cases status <;> rfl⟩
  case echo =>
    rintro ⟨id, body⟩ hi lo _ rfl address
    refine ⟨rfl, (echo_payload address).trans ?_⟩
    cases body with
    | windowClosed reason => cases reason <;> rfl
    | tableFull | windowOpen | windowRefused | bound | released => rfl
  case notice =>
    rintro ⟨body, time, overrun⟩ hi lo _ outcomeByte rfl stamp outcomes
    refine ⟨rfl, _, _, notice_payload stamp, ?_⟩
    cases body with
    | started cause => cases cause <;> rfl
    | windowClosed h reason => cases reason <;> rfl
    | crossoverFault x cause => cases cause <;> rfl
    | lane x slot outcome =>
      have coded : outcomeByte outcome = byte outcome.code := by
        rw [outcomes]
        cases outcome with
        | denied reason => cases reason <;> rfl
        | changed | missed | forced | stayed | lostInZone | unverified => rfl
      dsimp only
      rw [coded]
      cases slot <;> rfl
    | handsetLost | handsetReleased | windowOpen | bound | cutoff | cutoffCleared => rfl
  case codes =>
    intro d o k
    refine ⟨?decision, and_assoc.mp ⟨?outcome, rfl, rfl⟩⟩
    case decision =>
      cases d with
      | denied reason => cases reason <;> rfl
      | none | honored => rfl
    case outcome =>
      cases o with
      | denied reason => cases reason <;> exact ⟨rfl, rfl⟩
      | changed | missed | forced | stayed | lostInZone | unverified => exact ⟨rfl, rfl⟩

end Sys2Proof.Machine
end

section
/-! CLEAR-CUTOFF (R139): the DARK crossovers brought back in number order, and the state it leaves. -/

namespace Sys2Proof.Machine

/-- Crossover `x` taken out of service (R139 ④). -/
def disable (s : State) (x : CrossNo) : State := s.setCross x { s.cross x with state := .disabled }

/-- A DARK crossover that has a RETURN decided at the end of the cut-off (R139 ④). -/
def Crossover.returnsToService (c : Crossover) : Bool := decide (c.state = .dark) && c.config.enabled

/-- A DARK crossover that the end of the cut-off leaves DISABLED (R139 ④). -/
def Crossover.staysOut (c : Crossover) : Bool := decide (c.state = .dark) && !c.config.enabled

variable (s : State)

/-! ### One crossover -/

theorem resyncDark_returns {x : CrossNo} (returns : (s.cross x).returnsToService = true) :
    resyncDark s x = decideReturn x s := by
  obtain ⟨dark, enabled⟩ := Bool.and_eq_true_iff.mp returns
  simp only [resyncDark, of_decide_eq_true dark, enabled, if_true]

theorem resyncDark_staysOut {x : CrossNo} (out : (s.cross x).staysOut = true) : resyncDark s x = disable s x := by
  obtain ⟨dark, disabled⟩ := Bool.and_eq_true_iff.mp out
  have disabled : (s.cross x).config.enabled = false := by simpa using disabled
  simp [resyncDark, disable, of_decide_eq_true dark, disabled]

theorem resyncDark_lit {x : CrossNo} (returns : (s.cross x).returnsToService = false)
    (out : (s.cross x).staysOut = false) : resyncDark s x = s := by
  refine if_neg fun dark => ?_
  cases enabled : (s.cross x).config.enabled <;> simp_all [Crossover.returnsToService, Crossover.staysOut]

theorem disable_cross (x y : CrossNo) : (disable s x).cross y =
    if y = x then { s.cross y with state := .disabled } else s.cross y := by
  rw [disable, cross_setCross]
  by_cases h : x = y
  · subst h; simp
  · simp [h, Ne.symm h]

/-- A RETURN decided and the record of another crossover replaced, in either order. -/
theorem decideReturn_setCross_of_ne {x y : CrossNo} (apart : x ≠ y) (c : Crossover) :
    decideReturn x (s.setCross y c) = (decideReturn x s).setCross y c := by
  have places : y.val ≠ x.val := Fin.val_ne_of_ne apart.symm
  have same : (s.setCross y c).cross x = s.cross x := by rw [cross_setCross, if_neg apart.symm]
  simp only [decideReturn, same, setCross_commands]
  split <;> simp only [State.setCross, State.pushCommand, Vector.set_comm _ _ places]

theorem decideReturn_disable {x y : CrossNo} (apart : x ≠ y) :
    decideReturn x (disable s y) = disable (decideReturn x s) y := by
  rw [disable, disable, decideReturn_setCross_of_ne s apart, decideReturn_cross_of_ne s apart]

/-! ### All of them in number order -/

theorem foldl_decideReturn_disable {y : CrossNo} {xs : List CrossNo} (apart : y ∉ xs) :
    xs.foldl (fun s x => decideReturn x s) (disable s y) =
      disable (xs.foldl (fun s x => decideReturn x s) s) y := by
  induction xs generalizing s with
  | nil => rfl
  | cons x xs ih =>
    obtain ⟨hx, apart⟩ := not_or.mp (mt List.mem_cons.mpr apart)
    rw [List.foldl_cons, List.foldl_cons, decideReturn_disable s (Ne.symm hx), ih (decideReturn x s) apart]

theorem foldl_disable (xs : List CrossNo) :
    let t := xs.foldl disable s
    t = { s with crossovers := t.crossovers } ∧
    ∀ y, t.cross y = if y ∈ xs then { s.cross y with state := .disabled } else s.cross y := by
  induction xs generalizing s with
  | nil => simp
  | cons x xs ih =>
    obtain ⟨frame, records⟩ := ih (disable s x)
    refine ⟨frame, fun y => (records y).trans ?_⟩
    rw [disable_cross]
    by_cases hx : y = x <;> by_cases hxs : y ∈ xs <;> simp [hx, hxs]

/-- The DARK crossovers are brought back as if the RETURNs were decided first and the others taken out of service
after them: none of them touches the record of another. -/
theorem foldl_resyncDark {xs : List CrossNo} (nodup : xs.Nodup) : xs.foldl resyncDark s =
    (xs.filter fun x => (s.cross x).staysOut).foldl disable
      ((xs.filter fun x => (s.cross x).returnsToService).foldl (fun s x => decideReturn x s) s) := by
  induction xs generalizing s with
  | nil => rfl
  | cons x xs ih =>
    obtain ⟨hx, nodup⟩ := List.nodup_cons.mp nodup
    have alike {t : State} (other : ∀ y, x ≠ y → t.cross y = s.cross y) (p : Crossover → Bool) :
        xs.filter (fun y => p (t.cross y)) = xs.filter fun y => p (s.cross y) :=
      List.filter_congr fun y hy => by rw [other y (by rintro rfl; exact hx hy)]
    rw [List.foldl_cons, List.filter_cons, List.filter_cons]
    cases returns : (s.cross x).returnsToService with
    | true =>
      have other (y : CrossNo) (h : x ≠ y) := decideReturn_cross_of_ne s h
      have out : (s.cross x).staysOut = false := by
        simp_all [Crossover.returnsToService, Crossover.staysOut]
      rw [resyncDark_returns s returns, ih _ nodup, alike other, alike other, out]
      rfl
    | false =>
      cases out : (s.cross x).staysOut with
      | true =>
        have other (y : CrossNo) (h : x ≠ y) : (disable s x).cross y = s.cross y := by
          rw [disable_cross, if_neg h.symm]
        rw [resyncDark_staysOut s out, ih _ nodup, alike other, alike other,
          foldl_decideReturn_disable s fun h => hx (List.mem_of_mem_filter h)]
        rfl
      | false => rw [resyncDark_lit s returns out, ih s nodup]; rfl

/-- The DARK crossovers brought back: of those in service as many as find room have their RETURNs QUEUED and the rest
OWED, the others are DISABLED, and the remaining records stay (R96, R101, R139). -/
theorem resyncDark_all {back : List CrossNo}
    (hback : back = (List.finRange 16).filter fun x => (s.cross x).returnsToService) :
    let t := (List.finRange 16).foldl resyncDark s
    let queued := back.take (8 - s.commands.length)
    t = { s with commands := s.commands ++ queued.map s.returnOf, crossovers := t.crossovers } ∧
    ∀ x, t.cross x = if x ∈ back then s.returned x (x ∈ queued)
      else if (s.cross x).state = .dark then { s.cross x with state := .disabled } else s.cross x := by
  have nodup := List.nodup_finRange 16
  obtain ⟨decided, returned⟩ := foldl_decideReturn s (hback ▸ nodup.filter _ : back.Nodup)
  dsimp only
  rw [foldl_resyncDark s nodup, ← hback]
  generalize back.foldl (fun s x => decideReturn x s) s = u at decided returned ⊢
  obtain ⟨left, disabled⟩ := foldl_disable u ((List.finRange 16).filter fun x => (s.cross x).staysOut)
  generalize List.foldl disable u _ = t at left disabled ⊢
  refine ⟨?_, fun x => ?_⟩
  · rw [decided] at left
    exact left
  · have stays : x ∉ back → ((s.cross x).staysOut = true ↔ (s.cross x).state = .dark) := by
      simp [hback, Crossover.returnsToService, Crossover.staysOut]
    have served : x ∈ back → (s.cross x).staysOut = false := by
      simp +contextual [hback, Crossover.returnsToService, Crossover.staysOut]
    have out : x ∈ (List.finRange 16).filter (fun x => (s.cross x).staysOut) ↔ (s.cross x).staysOut = true := by simp
    rw [disabled x, returned x]
    by_cases h : x ∈ back
    · simp [h, served h]
    · simp [h, stays h]

theorem returned_queued (x : CrossNo) {queued : Prop} [Decidable queued] (h : queued) :
    s.returned x queued = { s.cross x with state := .returning, status := .queued .returning } := by
  simp [State.returned, h]

theorem returned_owed (x : CrossNo) {queued : Prop} [Decidable queued] (h : ¬queued) :
    s.returned x queued = { s.cross x with state := .returning, status := .owed (s.cross x).config.pulse } := by
  simp [State.returned, h]

/-! ### CLEAR-CUTOFF -/

/-- What the end of the cut-off leaves: with no command waiting there is room for eight RETURNs (R137, R139). -/
theorem leaveCutoff_eq {back : List CrossNo} (empty : s.commands = [])
    (hback : back = (List.finRange 16).filter fun x => (s.cross x).returnsToService) :
    ∃ t, leaveCutoff s = emit [.notice .cutoffCleared] t ∧
      t = { s with track := .halt, crossovers := t.crossovers, commands := (back.take 8).map s.returnOf } ∧
      ∀ x, t.cross x = if x ∈ back then s.returned x (x ∈ back.take 8)
        else if (s.cross x).state = .dark then { s.cross x with state := .disabled } else s.cross x := by
  have all := resyncDark_all { s with track := .halt } hback
  unfold leaveCutoff
  generalize List.foldl resyncDark _ _ = t at all ⊢
  obtain ⟨frame, records⟩ := all
  simp only [empty, List.length_nil, List.nil_append, Nat.sub_zero] at frame records
  exact ⟨t, queueNotice_eq t _, frame, records⟩

/-- Settles O31: the request is accepted, and its reply follows what the end of the cut-off leaves. -/
theorem clearCutoffResynchronises : Obligations.ClearCutoffResynchronises := by
  unfold Obligations.ClearCutoffResynchronises
  intro s tag back room released cut empty hback
  obtain ⟨t, left, frame, records⟩ := leaveCutoff_eq s.handTaken empty hback
  have taken : exec (.clearCutoff tag []) s =
      .next (emit [.notice .cutoffCleared, okReply tag 0x51 []] t) :=
    request_taken room (by simp [clearCutoffRequest, released, cut, answer_eq, left])
  have nodup : back.Nodup := hback ▸ (List.nodup_finRange 16).filter _
  refine ⟨t, taken, frame, fun x hx => ?queued, fun x hx => ?owed, fun x hx => ?left⟩
  case queued =>
    exact (records x).trans ((if_pos (List.mem_of_mem_take hx)).trans (returned_queued _ x hx))
  case owed =>
    have unqueued : x ∉ back.take 8 := fun h => List.disjoint_take_drop nodup le_rfl h hx
    exact (records x).trans ((if_pos (List.mem_of_mem_drop hx)).trans (returned_owed _ x unqueued))
  case left => exact (records x).trans (if_neg hx)

end Sys2Proof.Machine
end

section
/-! What is taken at the crossovers leaves the track as it is (Chapters 5, 6 and 8). -/

namespace Sys2Proof.Machine

variable (s : State)

theorem track_of_crossings {s t : State} (same : t.crossings = s.crossings) : t.track = s.track := by
  obtain ⟨-, -, track, -⟩ := crossings_iff.mp same
  exact track

/-! ### RETURN, FAULT and configurations (R96, R99, R102, R105) -/

@[simp] theorem decideReturn_track (x : CrossNo) : (decideReturn x s).track = s.track := by
  rw [decideReturn_eq]
  rfl

@[simp] theorem serveOwed_track : (serveOwed s).track = s.track := by
  unfold serveOwed
  split
  · rfl
  · split <;> rfl

@[simp] theorem enterFault_track (x : CrossNo) (cause : FaultCause) : (enterFault x cause s).track = s.track := by
  simp only [enterFault]
  split
  · exact serveOwed_track _
  · rfl

theorem loadConfig_track (x : CrossNo) (g : CrossConfig) : (loadConfig x g s).track = s.track := by
  cases atOnce : (s.cross x).state.appliesAtOnce with
  | false => rw [loadConfig_staged atOnce]; rfl
  | true =>
    obtain ⟨state, status, queue, applied, -⟩ := applied_asStated (g := g) atOnce
    rw [applied]
    rfl

/-! ### The emptied-queue rule, approaches and exits (R72 to R85) -/

@[simp] theorem becomeOpen_track (x : CrossNo) : (becomeOpen x s).track = s.track := by
  cases staged : (s.cross x).staged with
  | none => rw [becomeOpen_plain s x staged]; rfl
  | some g => rw [becomeOpen_staged s x staged]; rfl

@[simp] theorem becomeHolding_track (x : CrossNo) : (becomeHolding x s).track = s.track := by
  rw [becomeHolding_eq]
  split <;> simp

@[simp] theorem settle_track (x : CrossNo) (held : Bool) : (settle x held s).track = s.track := by
  have emptied : (emptiedQueue x s).track = s.track := by
    simp only [emptiedQueue]
    split
    · simp
    · simp
    · split <;> rfl
    all_goals rfl
  unfold settle
  split
  · exact emptied
  · rfl

@[simp] theorem removeEntry_track (x : CrossNo) (e : ZoneEntry) (rest : List ZoneEntry) (outcome : PassageOutcome)
    (exit : Option (Time × ExitSensor)) : (removeEntry x e rest outcome exit s).track = s.track := by
  rw [removeEntry_eq_settle, settle_track, track_of_crossings (completePassage_crossings x e rest outcome exit)]
  rfl

theorem takeApproach_track (x : CrossNo) (slot : Option SlotNo) : (takeApproach x slot s).track = s.track := by
  have entering (t : State) : (enter x slot t).track = t.track := by
    unfold enter
    split
    · by_cases h : (t.cross x).state = .opened ∧ (approachDecided x slot t).2 = .throwing
      · rw [appendEntry_throw t x slot h]; rfl
      · rw [appendEntry_plain t x slot h]; rfl
    · rfl
  rw [takeApproach_eq, entering, settle_track, (displaceHead_removes x).kept.2, (displaceSlot_removes x slot).kept.2]

theorem takeExit_track (x : CrossNo) (sensor : ExitSensor) (slot : Option SlotNo) :
    (takeExit x sensor slot s).track = s.track := by
  simp only [takeExit]
  split <;> split <;> simp

theorem crossSighting_track (x : CrossNo) (sensor : Sensor) (slot : Option SlotNo) :
    (crossSighting x sensor slot s).track = s.track := by
  unfold crossSighting
  split
  · split
    · exact takeApproach_track s x slot
    · exact takeExit_track s x _ slot
  · rfl

theorem takeSighting_track (x : CrossNo) (sensor p w : Byte) : (takeSighting x sensor p w s).track = s.track := by
  have paired (slot : Option SlotNo) (t : State) : (pairSighting slot t).track = t.track :=
    track_of_crossings (pairSighting_crossings t slot)
  have handed (sensor : Sensor) (slot : Option SlotNo) : (handSighting x sensor slot s).track = s.track := by
    obtain ⟨draws, h | h⟩ := handSighting_eitherOrder x sensor slot s
    · rw [h, crossSighting_track, paired]
    · rw [h, paired, crossSighting_track]
  unfold takeSighting
  split
  · rfl
  · split
    · rfl
    · exact handed _ _

/-! ### The diverter and the gate frame (R92 to R98, R101) -/

theorem takePosition_track (x : CrossNo) (pos : Position) : (takePosition x pos s).track = s.track := by
  rcases position_decided (s.cross x) pos with agrees | contradicts | ⟨kind, deadline, sent, ⟨h, rfl⟩ | ⟨h, rfl⟩⟩
  · rw [takePosition_agrees agrees]
  · rw [takePosition_contradicts contradicts, enterFault_track]
  · rw [takePosition_confirmsThrow sent h, confirmThrow]
    split <;> simp
  · rw [takePosition_confirmsReturn sent h, confirmReturn]
    split <;> simp

theorem elapseGuard_track (x : CrossNo) : (elapseGuard x s).track = s.track := by
  simp only [elapseGuard]
  split <;> simp

theorem formGate_track (p : Fin 12) : (formGate p s).track = s.track := by
  unfold formGate
  split
  · rfl
  · exact serveOwed_track _

/-! ### The section line (R108, R109) -/

theorem receiveSection_track (bytes : List Byte) : (receiveSection bytes s).track = s.track := by
  induction bytes generalizing s with
  | nil => rfl
  | cons b rest ih =>
    unfold receiveSection
    split
    · exact ih _
    · rename_i r _
      rw [ih]
      cases r with
      | sighting x sensor p w => exact takeSighting_track _ x sensor p w
      | position x pos => exact takePosition_track _ x pos

end Sys2Proof.Machine
end

section
/-! The hand link in CUTOFF: of the requests only CLEAR-CUTOFF and RESTART leave it, and of raw bytes only a frame that
holds one of them (R135, R142, R143). -/

namespace Sys2Proof.Machine

variable {s : State}

/-- A request that may leave CUTOFF: CLEAR-CUTOFF or RESTART, without arguments (R139, R156, Table 12-4). -/
def EndsCutoff (code : Byte) (args : List Byte) : Prop := args = [] ∧ (code = 0x51 ∨ code = 0x7F)

/-! ### Requests -/

section
variable (tag : Byte) (args : List Byte)

theorem readCrossoverRequest_track : (readCrossoverRequest tag args s).track = s.track := by
  unfold readCrossoverRequest
  split
  · split <;> rfl
  · rfl

theorem crossoverSetRequest_track : (crossoverSetRequest tag args s).track = s.track := by
  unfold crossoverSetRequest
  split
  · split
    · exact loadConfig_track s _ _
    · rfl
  · rfl

theorem crossoverClearRequest_track : (crossoverClearRequest tag args s).track = s.track := by
  unfold crossoverClearRequest
  split
  · split
    · split
      · rfl
      · split
        · rfl
        · exact decideReturn_track s _
    · rfl
  · rfl

variable (cut : s.track = .cutoff)
include cut

/-- TRACK is refused in CUTOFF (R136). -/
theorem trackRequest_staysCutoff : (trackRequest tag args s).track = .cutoff := by
  unfold trackRequest
  split
  · rw [if_pos cut]
    exact cut
  · exact cut

theorem clearCutoffRequest_staysCutoff (refused : args ≠ []) : (clearCutoffRequest tag args s).track = .cutoff := by
  unfold clearCutoffRequest
  split
  · exact absurd rfl refused
  · exact cut

theorem restartRequest_staysCutoff (refused : args ≠ []) : (restartRequest tag args s).track = .cutoff := by
  unfold restartRequest
  split
  · exact absurd rfl refused
  · exact cut

/-- Each code of Table 12-4 names its request; in CUTOFF all but two keep the track there (R151 ①). -/
theorem requestByCode_staysCutoff {code : Byte} (other : ¬EndsCutoff code args) :
    (requestByCode tag code args s).track = .cutoff := by
  have same {t : State} (h : t.crossings = s.crossings) : t.track = .cutoff := (track_of_crossings h).trans cut
  unfold requestByCode
  split
  · exact same (statusRequest_crossings ..)
  · exact same (readHandsetRequest_crossings ..)
  · exact same (readSlotRequest_crossings ..)
  · exact (readCrossoverRequest_track ..).trans cut
  · exact same (readWindowsRequest_crossings ..)
  · exact same (profileFirstRequest_crossings ..)
  · exact same (profileSecondRequest_crossings ..)
  · exact same (bindRequest_crossings ..)
  · exact same (unbindRequest_crossings ..)
  · exact same (forgetRequest_crossings ..)
  · exact same (setPaceRequest_crossings ..)
  · exact same (wishRequest_crossings ..)
  · exact same (beaconRequest_crossings ..)
  · exact same (beaconClearRequest_crossings ..)
  · exact same (toleranceRequest_crossings ..)
  · exact (crossoverSetRequest_track ..).trans cut
  · exact (crossoverClearRequest_track ..).trans cut
  · exact trackRequest_staysCutoff tag args cut
  · exact clearCutoffRequest_staysCutoff tag args cut fun empty => other ⟨empty, .inl rfl⟩
  · exact same (linkSetRequest_crossings ..)
  · exact restartRequest_staysCutoff tag args cut fun empty => other ⟨empty, .inr rfl⟩
  · exact cut

/-- A request is taken with room for its reply, or discarded (R144). -/
theorem onRequest_staysCutoff {code : Byte} (other : ¬EndsCutoff code args) :
    (onRequest (requestByCode tag code args) s).track = .cutoff := by
  unfold onRequest
  dsimp only
  split
  · exact requestByCode_staysCutoff tag args (s := s.handTaken) cut other
  · exact cut

end

/-! ### Raw bytes (R142, R143) -/

/-- A frame that ends the cut-off is a REQUEST of a tag and a code alone. -/
theorem routeFrame_leavesCutoff {kind : Byte} {payload : List Byte} (cut : s.track = .cutoff)
    (left : (routeFrame kind payload s).track ≠ .cutoff) :
    kind = 0x20 ∧ ∃ tag code, payload = [tag, code] ∧ (code = 0x51 ∨ code = 0x7F) := by
  unfold routeFrame at left
  split at left
  · exact absurd ((track_of_crossings (routeSample_crossings s.handTaken payload)).trans cut) left
  · split at left
    · rename_i request
      split at left
      · rename_i tag code args
        obtain ⟨rfl, ends⟩ : EndsCutoff code args :=
          of_not_not fun other => left (onRequest_staysCutoff tag args cut other)
        exact ⟨request, tag, code, rfl, ends⟩
      · exact absurd cut left
    · exact absurd cut left

/-- The byte that completes a frame is the last of its bytes, and the port has assembled the others (R142). -/
theorem handRxByte_completes {buffer rest payload : List Byte} {b kind : Byte} (part : PartialHandFrame buffer)
    (completed : handRxByte buffer b = (rest, some (kind, payload))) : buffer ++ [b] = handFrame kind payload := by
  unfold handRxByte at completed
  split at completed
  · simp at completed
  · simp at completed
  · simp at completed
  · rename_i start kind' length got
    obtain ⟨started, bounded⟩ : start = 0xC3 ∧ got.length ≤ length.toNat := by
      rcases part with empty | ⟨started, bounded⟩
      · simp at empty
      · obtain ⟨-, short⟩ := bounded length rfl
        rw [List.length_cons, List.length_cons, List.length_cons] at short
        exact ⟨Option.some.inj started, by omega⟩
    split at completed
    · simp at completed
    · rename_i whole
      split at completed
      · rename_i good
        simp only [Prod.mk.injEq, Option.some.injEq] at completed
        obtain ⟨-, rfl, rfl⟩ := completed
        have full : length = byte got.length := by
          rw [show got.length = length.toNat by omega]
          simp [byte]
        rw [handFrame, ← full, ← good, started]
      · simp at completed

/-- Where raw bytes leave CUTOFF, the first byte after which the track is out of it is the check byte of a CLEAR-CUTOFF
or RESTART request. -/
theorem receiveHand_leavesCutoff {bytes : List Byte} (inv : ReceiveInv s) (cut : s.track = .cutoff)
    (left : (receiveHand bytes s).track ≠ .cutoff) :
    ∃ (before later : List Byte) (check tag code : Byte), bytes = before ++ check :: later ∧
      (receiveHand before s).track = .cutoff ∧
      (receiveHand before s).handRx ++ [check] = handFrame 0x20 [tag, code] ∧ (code = 0x51 ∨ code = 0x7F) := by
  induction bytes generalizing s with
  | nil => exact absurd cut left
  | cons b rest ih =>
    have part := partialHandFrame_byte inv.1 b
    rcases taken : handRxByte s.handRx b with ⟨buffer, _ | ⟨kind, payload⟩⟩
    · rw [receiveHand_buffered taken] at left
      obtain ⟨before, later, check, tag, code, rfl, stays, frame⟩ :=
        ih (s := { s with handRx := buffer }) ⟨by simpa only [taken] using part, inv.2⟩ cut left
      refine ⟨b :: before, later, check, tag, code, rfl, ?_⟩
      rw [receiveHand_buffered taken]
      exact ⟨stays, frame⟩
    · rw [receiveHand_completed taken] at left
      by_cases routed : (routeFrame kind payload { s with handRx := buffer }).track = .cutoff
      · obtain ⟨before, later, check, tag, code, rfl, stays, frame⟩ :=
          ih (routeFrame_receiveInv (s := { s with handRx := buffer }) kind payload
            ⟨by simpa only [taken] using part, inv.2⟩) routed left
        refine ⟨b :: before, later, check, tag, code, rfl, ?_⟩
        rw [receiveHand_completed taken]
        exact ⟨stays, frame⟩
      · obtain ⟨rfl, tag, code, rfl, ends⟩ := routeFrame_leavesCutoff cut routed
        exact ⟨[], rest, b, tag, code, rfl, cut, handRxByte_completes inv.1 taken, ends⟩

end Sys2Proof.Machine
end

section
/-! The commands in CUTOFF (Table 9-1, R135). -/

namespace Sys2Proof.Machine

variable {s t : State}

theorem clearDeadlineExpiry_track {x : CrossNo} {i : Fin 4} (ht : exec (.clearDeadlineExpiry x i) s = .next t) :
    t.track = s.track := by
  obtain rfl := Host.Outcome.next.inj ht
  split
  · split
    · exact removeEntry_track s x _ _ _ _
    · rfl
  · rfl

theorem guardElapse_track {x : CrossNo} (ht : exec (.guardElapse x) s = .next t) : t.track = s.track := by
  obtain rfl := Host.Outcome.next.inj ht
  split
  · exact elapseGuard_track s x
  · rfl

theorem confirmDeadlineExpiry_track {x : CrossNo} (ht : exec (.confirmDeadlineExpiry x) s = .next t) :
    t.track = s.track := by
  obtain rfl := Host.Outcome.next.inj ht
  split
  · split
    · exact enterFault_track s x .confirmTimeout
    · rfl
  all_goals rfl

theorem gateFrame_track (ht : exec .gateFrame s = .next t) : t.track = s.track := by
  obtain rfl := Host.Outcome.next.inj ht
  split
  · exact formGate_track s 9
  · split
    · exact formGate_track s 10
    · rfl

/-- In CUTOFF the fault line is only recorded (R137). -/
theorem faultLineAsserted_staysCutoff (cut : s.track = .cutoff) (ht : exec .faultLineAsserted s = .next t) :
    t.track = .cutoff := by
  obtain rfl := Host.Outcome.next.inj ht
  rw [if_pos cut]
  exact cut

/-- A request command that leaves CUTOFF has a code of those two and no arguments. -/
theorem request_leavesCutoff {tag code : Byte} {args : List Byte} (cut : s.track = .cutoff)
    (ht : (Host.Outcome.next (onRequest (requestByCode tag code args) s) : Result) = .next t)
    (left : t.track ≠ .cutoff) : EndsCutoff code args := by
  obtain rfl := Host.Outcome.next.inj ht
  exact of_not_not fun other => left (onRequest_staysCutoff tag args cut other)

/-- Settles O10: a command keeps the track, or is a request with another code, or is one of the four named. -/
theorem cutoffIsLeftOnlyByClearCutoffOrAReset : Obligations.CutoffIsLeftOnlyByClearCutoffOrAReset := by
  unfold Obligations.CutoffIsLeftOnlyByClearCutoffOrAReset
  intro c s t formed inv cut ht left
  have stays {goal : Prop} (h : t.track = .cutoff) : goal := absurd h left
  have kept {goal : Prop} (h : t.track = s.track) : goal := stays (h.trans cut)
  have same {goal : Prop} (h : t.crossings = s.crossings) : goal := kept (track_of_crossings h)
  have request {goal : Prop} {tag code : Byte} {args : List Byte} (other : code ≠ 0x51 ∧ code ≠ 0x7F)
      (ht : (Host.Outcome.next (onRequest (requestByCode tag code args) s) : Result) = .next t) : goal :=
    have ⟨_, ends⟩ := request_leavesCutoff cut ht left
    (not_or.mpr other ends).elim
  cases c with
  | clearCutoff tag args =>
    obtain ⟨rfl, -⟩ := request_leavesCutoff (code := 0x51) cut ht left
    exact .inl ⟨tag, rfl⟩
  | restart tag args =>
    obtain ⟨rfl, -⟩ := request_leavesCutoff (code := 0x7F) cut ht left
    exact .inr (.inl ⟨tag, rfl⟩)
  | powerOnReset asserted =>
    cases asserted with
    | false => exact .inr (.inr (.inl rfl))
    | true => exact stays (Host.Outcome.next.inj ht ▸ rfl)
  | handLinkFrameDiscard bytes =>
    obtain rfl := Host.Outcome.next.inj ht
    obtain ⟨before, later, check, tag, code, rfl, still, frame⟩ := receiveHand_leavesCutoff inv cut left
    exact .inr (.inr (.inr ⟨before, later, check, tag, code, receiveHand before s, rfl, rfl, still, frame⟩))
  | unknownRequest tag code args =>
    refine request ⟨?_, ?_⟩ ht <;> rintro rfl <;> simp [WellFormed, Config.requestCodes] at formed
  | sample payload => exact same (Host.Outcome.next.inj ht ▸ routeSample_crossings s.handTaken payload)
  | silenceExpiry h => exact same (silenceExpiry_crossings ht)
  | releaseExpiry h => exact same (releaseExpiry_crossings ht)
  | windowExpiry h => exact same (windowExpiry_crossings ht)
  | sighting x sensor p w => exact kept (Host.Outcome.next.inj ht ▸ takeSighting_track s.reportTaken x sensor p w)
  | clearDeadlineExpiry x i => exact kept (clearDeadlineExpiry_track ht)
  | guardElapse x => exact kept (guardElapse_track ht)
  | position x pos => exact kept (Host.Outcome.next.inj ht ▸ takePosition_track s.reportTaken x pos)
  | confirmDeadlineExpiry x => exact kept (confirmDeadlineExpiry_track ht)
  | sectionFrameDiscard bytes => exact kept (Host.Outcome.next.inj ht ▸ receiveSection_track s bytes)
  | sectionByteTimeout => exact kept (Host.Outcome.next.inj ht ▸ rfl)
  | handLinkByteTimeout => exact kept (Host.Outcome.next.inj ht ▸ rfl)
  | status tag args => exact request (code := 0x01) (by decide) ht
  | readHandset tag args => exact request (code := 0x02) (by decide) ht
  | readSlot tag args => exact request (code := 0x03) (by decide) ht
  | readCrossover tag args => exact request (code := 0x04) (by decide) ht
  | readWindows tag args => exact request (code := 0x05) (by decide) ht
  | profileFirst tag args => exact request (code := 0x10) (by decide) ht
  | profileSecond tag args => exact request (code := 0x11) (by decide) ht
  | bind tag args => exact request (code := 0x20) (by decide) ht
  | unbind tag args => exact request (code := 0x21) (by decide) ht
  | forget tag args => exact request (code := 0x22) (by decide) ht
  | setPace tag args => exact request (code := 0x23) (by decide) ht
  | wish tag args => exact request (code := 0x24) (by decide) ht
  | beacon tag args => exact request (code := 0x30) (by decide) ht
  | beaconClear tag args => exact request (code := 0x31) (by decide) ht
  | tolerance tag args => exact request (code := 0x32) (by decide) ht
  | crossoverSet tag args => exact request (code := 0x40) (by decide) ht
  | crossoverClear tag args => exact request (code := 0x41) (by decide) ht
  | track tag args => exact request (code := 0x50) (by decide) ht
  | linkSet tag args => exact request (code := 0x60) (by decide) ht
  | faultLineAsserted => exact stays (faultLineAsserted_staysCutoff cut ht)
  | faultLineReleased => exact kept (Host.Outcome.next.inj ht ▸ rfl)
  | headFrame => exact same (headFrame_crossings ht)
  | driveFrame k => exact same (driveFrame_crossings ht)
  | gateFrame => exact kept (gateFrame_track ht)
  | codeFrame => exact same (codeFrame_crossings ht)
  | transmitterFrameEnd => exact kept (Host.Outcome.next.inj ht ▸ rfl)

end Sys2Proof.Machine
end

section
/-! The outbound side of the hand link (R144 to R147, R150, R158, R160): what a full reply queue does to a request,
which frame takes the line next, and the bounds every step keeps. -/

namespace Sys2Proof.Machine

/-! ### The bounds of the queues (R144 to R147) -/

section
variable {s t : State}

/-- Every edit keeps the queues within their bounds and leaves no frame waiting on a free transmitter. -/
theorem Edit.linkInv (h : Edit s t) (inv : LinkInv s) : LinkInv t := by
  cases h with
  | echo id body => exact echo_ok inv id body
  | notice body => exact notice_ok inv body s.time
  | frameEnd => exact endFrame_ok inv
  | queuesDropped => exact ⟨Nat.zero_le _, Nat.zero_le _, Nat.zero_le _, fun _ => ⟨rfl, rfl, rfl⟩⟩
  | poweredOn asserted => exact poweredOn_linkInv asserted s
  | _ => exact inv
end

/-- Settles O4: every edit keeps the bounds, and a reply is queued only where its queue has room. -/
theorem stepKeepsTheOutboundQueues : Obligations.StepKeepsTheOutboundQueues := by
  unfold Obligations.StepKeepsTheOutboundQueues
  intro s t inv ht
  obtain ⟨rest, changes⟩ := step_changes ht
  exact changes.keep (P := LinkInv) Edit.linkInv (fun r room inv => reply_ok inv room r) inv

/-! ### A full reply queue (R144) -/

/-- With the reply queue full a request of any code is discarded. -/
theorem unknownRequest_full {s : State} (full : 4 ≤ s.out.replies.length) (tag code : Byte) (args : List Byte) :
    exec (.unknownRequest tag code args) s = .next s.handTaken :=
  congrArg Host.Outcome.next (onRequest_full full _)

/-- Settles O14: each request of Table 12-4 is the one its code names, and one of any code is discarded. -/
theorem requestIsDiscardedWhileRepliesAreFull : Obligations.RequestIsDiscardedWhileRepliesAreFull := by
  unfold Obligations.RequestIsDiscardedWhileRepliesAreFull
  intro s tag code args full
  exact ⟨fun r hr => (exec_request r hr).trans (unknownRequest_full full tag r.2.1 args),
    unknownRequest_full full tag code args⟩

section
variable {o : Outbound}

/-! ### The frame that takes the line next (R145, R160) -/

theorem startNext_sending {frame : OutFrame} {parts : List OutFrame} (busy : o.transmitter = .sending frame parts) :
    o.startNext = o := by
  unfold Outbound.startNext
  rw [busy]

section
variable (free : o.transmitter = .free)
include free

/-- A reply goes before every echo and notice. -/
theorem startNext_reply {r : Reply} {rest : List Reply} (replies : o.replies = r :: rest) :
    o.startNext = { o with replies := rest, transmitter := r.onLine } := by
  unfold Outbound.startNext
  rw [free, replies]

/-- An echo goes before every notice. -/
theorem startNext_echo {e : Echo} {rest : List Echo} (replies : o.replies = []) (echoes : o.echoes = e :: rest) :
    o.startNext = { o with echoes := rest, transmitter := .sending (.echo e) [] } := by
  unfold Outbound.startNext
  rw [free, replies, echoes]

theorem startNext_notice {n : Notice} {rest : List Notice} (replies : o.replies = []) (echoes : o.echoes = [])
    (notices : o.notices = n :: rest) :
    o.startNext = { o with notices := rest, transmitter := .sending (.notice n) [] } := by
  unfold Outbound.startNext
  rw [free, replies, echoes, notices]

theorem startNext_empty (replies : o.replies = []) (echoes : o.echoes = []) (notices : o.notices = []) :
    o.startNext = o := by
  unfold Outbound.startNext
  rw [free, replies, echoes, notices]
end

/-- The next part of the same reply follows before anything that is queued (R160). -/
theorem endFrame_part {frame next : OutFrame} {parts : List OutFrame}
    (busy : o.transmitter = .sending frame (next :: parts)) :
    o.endFrame = { o with transmitter := .sending next parts } := by
  unfold Outbound.endFrame
  rw [busy]

/-- With no part left the transmitter is free, and takes the next frame in the same event (R145). -/
theorem endFrame_last {frame : OutFrame} (busy : o.transmitter = .sending frame []) :
    o.endFrame = Outbound.startNext { o with transmitter := .free } := by
  unfold Outbound.endFrame
  rw [busy]

/-- With no part left a queued reply goes on the line (R145). -/
theorem endFrame_reply {frame : OutFrame} {r : Reply} {rest : List Reply} (busy : o.transmitter = .sending frame [])
    (replies : o.replies = r :: rest) : o.endFrame = { o with replies := rest, transmitter := r.onLine } :=
  (endFrame_last busy).trans (startNext_reply rfl replies)

/-! ### What is handed on while a frame is on the line (R146, R147, R150, R158) -/

section
variable {frame : OutFrame} {parts : List OutFrame} (busy : o.transmitter = .sending frame parts)
include busy

theorem reply_sending (r : Reply) : o.reply r = { o with replies := o.replies ++ [r] } :=
  startNext_sending busy

theorem echo_sending (id : RadioId) (body : EchoBody) :
    o.echo id body = { o with echoes := appendEcho ⟨id, body⟩ o.echoes } :=
  startNext_sending busy

theorem notice_sending (room : o.notices.length < 32) (body : NoticeBody) (now : Time) :
    o.notice body now =
      { o with notices := o.notices ++ [⟨body, now.setWidth 16, o.overrun⟩], overrun := false } :=
  (if_pos room).trans (startNext_sending busy)
end

theorem appendEcho_room {echoes : List Echo} (room : echoes.length < 8) (e : Echo) :
    appendEcho e echoes = echoes ++ [e] := by
  rw [appendEcho, if_pos room]

/-- A full queue drops its oldest echo (R146). -/
theorem appendEcho_full {echoes : List Echo} (full : echoes.length = 8) (e : Echo) :
    appendEcho e echoes = echoes.drop 1 ++ [e] := by
  rw [appendEcho, if_neg (Nat.not_lt.mpr full.ge), List.drop_one]

/-- A full queue discards a notice and remembers that it did (R147). -/
theorem notice_full (full : o.notices.length = 32) (body : NoticeBody) (now : Time) :
    o.notice body now = { o with overrun := true } :=
  if_neg (Nat.not_lt.mpr full.ge)

/-- A notice carries the low 16 bits of TIME (R147). -/
theorem toNat_noticeTime (now : Time) : (now.setWidth 16).toNat = now.toNat % 65536 := BitVec.toNat_setWidth 16 now

/-! ### What is handed on to a free transmitter (R145) -/

section
variable (free : o.transmitter = .free) (replies : o.replies = [])
include free replies

theorem reply_free (r : Reply) : o.reply r = { o with transmitter := r.onLine } := by
  have started := startNext_reply (o := { o with replies := o.replies ++ [r] }) free (by rw [replies]; rfl)
  rw [Outbound.reply, started, replies]

theorem echo_free (echoes : o.echoes = []) (id : RadioId) (body : EchoBody) :
    o.echo id body = { o with transmitter := .sending (.echo ⟨id, body⟩) [] } := by
  have started := startNext_echo (o := { o with echoes := appendEcho ⟨id, body⟩ o.echoes }) free replies
    (by rw [echoes]; rfl)
  rw [Outbound.echo, started, echoes]

theorem notice_free (echoes : o.echoes = []) (notices : o.notices = []) (body : NoticeBody) (now : Time) :
    o.notice body now = { o with
      overrun := false, transmitter := .sending (.notice ⟨body, now.setWidth 16, o.overrun⟩) [] } := by
  have room : o.notices.length < 32 := by simp [notices]
  have started := startNext_notice (o := { o with
    notices := o.notices ++ [⟨body, now.setWidth 16, o.overrun⟩], overrun := false }) free replies echoes
    (by rw [notices]; rfl)
  rw [Outbound.notice, if_pos room, started, notices]
end
end

/-- Settles O57: the end of a frame by what waits behind it, and each output by whether the transmitter is free. -/
theorem outboundFramesLeaveByPrecedence : Obligations.OutboundFramesLeaveByPrecedence := by
  unfold Obligations.OutboundFramesLeaveByPrecedence
  refine ⟨?frameEnds, ?whileSending, ?whileFree⟩
  case frameEnds =>
    rintro s o frame next parts rfl
    have ended {out : Outbound} (h : s.out.endFrame = out) :
        exec .transmitterFrameEnd s = .next { s with out := out } := h ▸ rfl
    refine ⟨fun busy => ended (endFrame_part busy), fun busy => ?_⟩
    have last := endFrame_last busy
    refine ⟨fun _ _ _ _ _ replies => ?single, fun _ _ _ _ _ _ _ replies => ?parts,
      fun _ _ replies echoes => ?echo, fun _ _ replies echoes notices => ?notice,
      fun replies echoes notices => ?empty⟩
    case single => exact ended (endFrame_reply busy replies)
    case parts => exact ended (endFrame_reply busy replies)
    case echo => exact ended (last.trans (startNext_echo rfl replies echoes))
    case notice => exact ended (last.trans (startNext_notice rfl replies echoes notices))
    case empty => exact ended (last.trans (startNext_empty rfl replies echoes notices))
  case whileSending =>
    intro o frame parts now id echo body busy
    refine ⟨fun room => ?echoRoom, fun full => ?echoFull, fun room => ?noticeRoom,
      fun full => notice_full full body now, fun r => reply_sending busy r⟩
    case echoRoom => exact (echo_sending busy id echo).trans (by rw [appendEcho_room room])
    case echoFull => exact (echo_sending busy id echo).trans (by rw [appendEcho_full full])
    case noticeRoom => exact ⟨_, rfl, rfl, toNat_noticeTime now, notice_sending busy room body now⟩
  case whileFree =>
    intro o now free replies echoes notices
    exact ⟨fun _ _ _ _ => reply_free free replies _, fun _ _ _ _ _ _ => reply_free free replies _,
      echo_free free replies echoes,
      fun body => ⟨_, rfl, rfl, toNat_noticeTime now, notice_free free replies echoes notices body now⟩⟩

end Sys2Proof.Machine
end

section
/-! What every command leaves of the queue of commands, the checks every request goes through first, and the replies of
STATUS and READ-SLOT (R149, R151 to R154). -/

namespace Sys2Proof.Machine

/-! ### The queue of commands (00_scope.md 0.6) -/

section
variable {s t : State}

/-- Every command has a next state: no arm of `exec` stops the part. -/
theorem exec_next (c : Instr) (s : State) : ∃ t, exec c s = .next t := by
  cases c <;> exact ⟨_, rfl⟩

/-- No edit touches the commands that wait. -/
theorem Edit.pending_eq (h : Edit s t) : t.pending = s.pending := by
  cases h <;> rfl

theorem Changes.pending_eq (h : Changes s t) : t.pending = s.pending :=
  h.keep (P := fun u => u.pending = s.pending) (fun e kept => e.pending_eq.trans kept) (fun _ _ kept => kept) rfl

/-- TIME advances by one and wraps to 0 after its highest value (R149). -/
theorem tick_time_toNat (s : State) : (tick s).time.toNat = (s.time.toNat + 1) % 4294967296 :=
  BitVec.toNat_add s.time 1

/-- With no command waiting a step is one millisecond. -/
theorem step_idle (idle : s.pending = []) : step s = .next (tick s) := by
  rw [step, idle]
end

/-- Settles O2: a command answers, its edits and replies keep the queue, and an idle step is a tick of TIME. -/
theorem stepAnswersAndKeepsTheQueueOrder : Obligations.StepAnswersAndKeepsTheQueueOrder := by
  unfold Obligations.StepAnswersAndKeepsTheQueueOrder
  refine ⟨fun c s => ?_, fun s idle => ⟨tick s, step_idle idle, rfl, tick_time_toNat s⟩⟩
  obtain ⟨t, ht⟩ := exec_next c s
  exact ⟨t, ht, (exec_changes ht).pending_eq⟩

/-! ### The common checks of a request (R151 ① to ③) -/

/-- A code outside Table 12-4 names no request, whatever its arguments (R151 ①). -/
theorem requestByCode_unknown {code : Byte} (unknown : code ∉ Config.requestCodes) (tag : Byte) (args : List Byte)
    (s : State) : requestByCode tag code args s = emit [refusal tag code .unknownRequest []] s := by
  unfold requestByCode
  split
  case h_22 => exact refuse_eq ..
  all_goals exact absurd (by decide) unknown

/-- Each request refuses every number of arguments but the one of Table 12-4 (R151 ②): its meaning reads a list of
that length, and refuses in its only other case. -/
theorem requestByCode_badLength {tag : Byte} {args : List Byte} (s : State) : ∀ r ∈ requestTable tag args,
    args.length ≠ r.2.2 → requestByCode tag r.2.1 args s = emit [refusal tag r.2.1 .badLength []] s := by
  simp only [requestTable, List.forall_mem_cons, List.not_mem_nil, IsEmpty.forall_iff, implies_true, and_true,
    BitVec.ofNat_eq_ofNat, requestByCode,
    statusRequest, readHandsetRequest, readSlotRequest, readCrossoverRequest, readWindowsRequest, profileFirstRequest,
    profileSecondRequest, bindRequest, unbindRequest, forgetRequest, setPaceRequest, wishRequest, beaconRequest,
    beaconClearRequest, toleranceRequest, crossoverSetRequest, crossoverClearRequest, trackRequest,
    clearCutoffRequest, linkSetRequest, restartRequest]
  and_intros
  all_goals
    intro wrong
    split
    · exact absurd rfl wrong
    · exact refuse_eq ..

/-! ### Index arguments out of range (R151 ③) -/

section
variable {b : Byte} (tag v1 v2 v3 v4 v5 v6 : Byte) (s : State)

section
variable (large : 12 ≤ b.toNat)
include large

theorem readHandsetRequest_badIndex :
    readHandsetRequest tag [b] s = emit [refusal tag 0x02 .badIndex []] s := by
  simp only [readHandsetRequest, entryArg_none large, refuse_eq]

theorem forgetRequest_badIndex : forgetRequest tag [b] s = emit [refusal tag 0x22 .badIndex []] s := by
  simp only [forgetRequest, entryArg_none large, refuse_eq]

/-- A handset entry out of range is refused whatever the slot beside it. -/
theorem bindRequest_badEntry : bindRequest tag [b, v1] s = emit [refusal tag 0x20 .badIndex []] s := by
  simp only [bindRequest, entryArg_none large, refuse_eq]
end

section
variable (outside : b.toNat = 0 ∨ 9 ≤ b.toNat)
include outside

theorem readSlotRequest_badIndex : readSlotRequest tag [b] s = emit [refusal tag 0x03 .badIndex []] s := by
  simp only [readSlotRequest, slotArg_none outside, refuse_eq]

theorem profileSecondRequest_badIndex :
    profileSecondRequest tag [b, v1, v2, v3, v4, v5] s = emit [refusal tag 0x11 .badIndex []] s := by
  simp only [profileSecondRequest, slotArg_none outside, refuse_eq]

/-- A slot out of range is refused whatever the handset entry beside it. -/
theorem bindRequest_badSlot : bindRequest tag [v1, b] s = emit [refusal tag 0x20 .badIndex []] s := by
  cases h : entryArg v1 <;> simp only [bindRequest, h, slotArg_none outside, refuse_eq]

theorem unbindRequest_badIndex : unbindRequest tag [b] s = emit [refusal tag 0x21 .badIndex []] s := by
  simp only [unbindRequest, slotArg_none outside, refuse_eq]

theorem setPaceRequest_badIndex : setPaceRequest tag [b, v1] s = emit [refusal tag 0x23 .badIndex []] s := by
  simp only [setPaceRequest, slotArg_none outside, refuse_eq]

theorem wishRequest_badIndex : wishRequest tag [b, v1] s = emit [refusal tag 0x24 .badIndex []] s := by
  simp only [wishRequest, slotArg_none outside, refuse_eq]

theorem beaconRequest_badIndex :
    beaconRequest tag [b, v1, v2, v3, v4] s = emit [refusal tag 0x30 .badIndex []] s := by
  simp only [beaconRequest, slotArg_none outside, refuse_eq]

theorem beaconClearRequest_badIndex : beaconClearRequest tag [b] s = emit [refusal tag 0x31 .badIndex []] s := by
  simp only [beaconClearRequest, slotArg_none outside, refuse_eq]
end

section
variable (large : 16 ≤ b.toNat)
include large

theorem readCrossoverRequest_badIndex :
    readCrossoverRequest tag [b] s = emit [refusal tag 0x04 .badIndex []] s := by
  simp only [readCrossoverRequest, crossArg_none large, refuse_eq]

theorem crossoverSetRequest_badIndex :
    crossoverSetRequest tag [b, v1, v2, v3, v4, v5, v6] s = emit [refusal tag 0x40 .badIndex []] s := by
  simp only [crossoverSetRequest, crossArg_none large, refuse_eq]

theorem crossoverClearRequest_badIndex :
    crossoverClearRequest tag [b] s = emit [refusal tag 0x41 .badIndex []] s := by
  simp only [crossoverClearRequest, crossArg_none large, refuse_eq]
end
end

/-- Settles O15: a request with room for its reply is taken, and the check that fails is its own lemma above. -/
theorem failedChecksAreAnswered : Obligations.FailedChecksAreAnswered := by
  unfold Obligations.FailedChecksAreAnswered
  refine ⟨fun s tag args room r hr wrong => ?length, fun s tag code args room unknown => ?code,
    fun s tag b v1 v2 v3 v4 v5 v6 room => ⟨fun large => ⟨?_, ?_, ?_⟩,
      fun outside => ⟨?_, ?_, ?_, ?_, ?_, ?_, ?_, ?_⟩, fun large => ⟨?_, ?_, ?_⟩⟩⟩
  case length =>
    rw [exec_request r hr]
    exact request_taken room (requestByCode_badLength s.handTaken r hr wrong)
  case code => exact request_taken room (requestByCode_unknown unknown tag args s.handTaken)
  · exact request_taken room (readHandsetRequest_badIndex tag _ large)
  · exact request_taken room (forgetRequest_badIndex tag _ large)
  · exact request_taken room (bindRequest_badEntry tag v1 _ large)
  · exact request_taken room (readSlotRequest_badIndex tag _ outside)
  · exact request_taken room (profileSecondRequest_badIndex tag v1 v2 v3 v4 v5 _ outside)
  · exact request_taken room (bindRequest_badSlot tag v1 _ outside)
  · exact request_taken room (unbindRequest_badIndex tag _ outside)
  · exact request_taken room (setPaceRequest_badIndex tag v1 _ outside)
  · exact request_taken room (wishRequest_badIndex tag v1 _ outside)
  · exact request_taken room (beaconRequest_badIndex tag v1 v2 v3 v4 _ outside)
  · exact request_taken room (beaconClearRequest_badIndex tag _ outside)
  · exact request_taken room (readCrossoverRequest_badIndex tag _ large)
  · exact request_taken room (crossoverSetRequest_badIndex tag v1 v2 v3 v4 v5 v6 _ large)
  · exact request_taken room (crossoverClearRequest_badIndex tag _ large)

/-! ### STATUS (R153, Table 12-8) -/

/-- A number from its bits has them. -/
theorem testBit_ofBits (bits : List Bool) (i : Nat) : (ofBits bits).testBit i = bits.getD i false := by
  induction bits generalizing i with
  | nil => simp [ofBits]
  | cons b rest ih =>
    have bit : ofBits (b :: rest) = Nat.bit b (ofBits rest) := by
      rw [ofBits, Nat.bit_val, Nat.add_comm]
    cases i with
    | zero => rw [bit, Nat.testBit_bit_zero]; rfl
    | succ i => rw [bit, Nat.testBit_bit_succ, ih]; rfl

/-- A mask gathered from a table has the bit of each record. -/
theorem mask_getLsbD {α : Type} {n : Nat} (v : Vector α n) (f : α → Bool) (k : Fin n) :
    (BitVec.ofNat n (ofBits (v.toList.map f))).getLsbD k.val = f v[k.val] := by
  rw [BitVec.getLsbD_ofNat, testBit_ofBits]
  simp

/-- The enrolled count counts the entries that are not FREE, by their numbers (R153). -/
theorem enrolledCount_eq (s : State) :
    enrolledCount s = (List.finRange 12).countP fun h => (s.entry h).isSome := by
  have table : s.handsets.toList = (List.finRange 12).map s.entry :=
    List.ext_getElem (by simp) fun i _ _ => by simp [State.entry]
  rw [enrolledCount, ← List.countP_eq_length_filter, table, List.countP_map]
  rfl

/-- Settles O17: the request is taken, and its masks and its count read the tables record by record. -/
theorem statusReportsThePart : Obligations.StatusReportsThePart := by
  unfold Obligations.StatusReportsThePart
  intro s tag room
  refine ⟨wishMask s, boundMask s, failsafeMask s, faultMask s, request_taken room ?reply,
    fun k => ⟨mask_getLsbD .., (mask_getLsbD ..).trans decide_not.symm, mask_getLsbD ..⟩,
    fun x => (mask_getLsbD ..).trans (beq_eq_decide ..)⟩
  case reply =>
    -- The data reads nothing of the receive buffer, so it is that of `s` itself.
    change emit [okReply tag 0x01 (statusData s)] s.handTaken = _
    rw [statusData, enrolledCount_eq]
    cases s.track <;> cases s.resetCause <;> rfl

/-! ### READ-SLOT (R154, Table 12-10) -/

theorem Curve.code_le (c : Curve) : c.code ≤ 1 := by cases c <;> decide

theorem Policy.code_le (p : Policy) : p.code ≤ 2 := by cases p <;> decide

/-- The mode byte of a profile, the bits that no table assigns taken from `free` (Table 12-10 note 1). -/
def modeByte (free : Byte) (p : Profile) : Byte := fillBits 0xF8 (byte (p.curve.code + 2 * p.policy.code)) free

/-- A profile's bytes are its numbers and then its mode byte. -/
theorem profileBytes_eq (free : Byte) (p : Profile) :
    profileBytes free p = profileNumbers p ++ [modeByte free p] := rfl

theorem modeByte_says (free : Byte) (p : Profile) : ModeByte (modeByte free p) p := by
  have curve := p.curve.code_le
  have policy := p.policy.code_le
  have stated : (byte (p.curve.code + 2 * p.policy.code)).toNat = p.curve.code + 2 * p.policy.code :=
    byte_toNat (by omega)
  refine ⟨?curve, ?policy⟩
  case curve =>
    rw [modeByte, fillBits_getLsbD _ _ (by decide), getLsbD_eq_div, stated]
    cases p.curve <;> simp [Curve.code]
  case policy =>
    have field := fillBits_field (mask := 0xF8) (start := 1) (width := 2)
      (byte (p.curve.code + 2 * p.policy.code)) free (by decide)
    rw [stated] at field
    have code : (modeByte free p).toNat / 2 % 4 = p.policy.code := by
      rw [modeByte]; omega
    rw [code]
    cases p.policy <;> rfl

/-- The three stated flags of a slot record, whatever the free bits of their byte. -/
theorem slotFlags_say (free : Byte) (wish failsafe waiting : Bool) :
    let flags := fillBits 0xF8 (byteOfBits [wish, failsafe, waiting]) free
    flags.getLsbD 0 = wish ∧ flags.getLsbD 1 = failsafe ∧ flags.getLsbD 2 = waiting := by
  dsimp only
  rw [fillBits_getLsbD _ _ (by decide), fillBits_getLsbD _ _ (by decide), fillBits_getLsbD _ _ (by decide)]
  cases wish <;> cases failsafe <;> cases waiting <;> decide

/-- The bytes of a pending profile, none where there is none. -/
def waitingBytes (free : Byte) : Option Profile → List Byte
  | some p => profileNumbers p ++ [modeByte free p]
  | none => []

theorem slotData_eq (u : Nat → Byte) (r : Slot) : slotData u r =
    sourceBytes r.source
      ++ [fillBits 0xF8 (byteOfBits [r.wish, r.failsafe, r.pendingProfile.isSome]) (u 2), byte r.lastStep]
      ++ profileNumbers r.active ++ [modeByte (u 11) r.active] ++ waitingBytes (u 19) r.pendingProfile := by
  rw [slotData, profileBytes_eq, List.append_assoc _ (profileNumbers _)]
  cases r.pendingProfile <;> rfl

theorem readSlotRequest_reports (tag : Byte) (k : SlotNo) (s : State) :
    readSlotRequest tag [byte (k.val + 1)] s = emit [okReply tag 0x03 (slotData (freeBits s) (s.slot k))] s.draw := by
  simp only [readSlotRequest, slotArg_byte, answer_eq]

/-- Settles O19: the request is taken, and its stated bits and bytes are the record's. -/
theorem readSlotReportsTheRecord : Obligations.ReadSlotReportsTheRecord := by
  unfold Obligations.ReadSlotReportsTheRecord
  intro s tag k room
  obtain ⟨wish, failsafe, waiting⟩ :=
    slotFlags_say (freeBits s 2) (s.slot k).wish (s.slot k).failsafe (s.slot k).pendingProfile.isSome
  refine ⟨_, modeByte (freeBits s 11) (s.slot k).active, waitingBytes (freeBits s 19) (s.slot k).pendingProfile,
    request_taken room ?reply, wish, failsafe, waiting, modeByte_says _ _, fun absent => ?absent,
    fun p present => ?present⟩
  case reply =>
    rw [readSlotRequest_reports, slotData_eq, handTaken_slot]
    cases (s.slot k).source <;> rfl
  case absent => rw [absent]; rfl
  case present =>
    rw [present]
    exact ⟨_, rfl, modeByte_says _ p⟩

end Sys2Proof.Machine
end

section
/-! The command a step takes (00_scope.md 0.6). -/

namespace Sys2Proof.Machine

/-- A step with a command waiting is that command on the state with the rest of the queue. -/
theorem step_front {s : State} {c : Instr} {rest : List Instr} (front : s.pending = c :: rest) :
    step s = exec c { s with pending := rest } := by
  rw [step, front]

/-- Settles O1: the first command of the queue is the one at its front. -/
theorem stepTakesTheFrontCommand : Obligations.StepTakesTheFrontCommand := by
  unfold Obligations.StepTakesTheFrontCommand
  exact fun c rest s => step_front (s := { s with pending := c :: rest }) rfl

end Sys2Proof.Machine
end

section
/-! The slots whose source is PACE: no command but raw bytes on the hand link, which may hold an UNBIND and a BIND, makes
a handset the source of one (Table 2-2). -/

namespace Sys2Proof.Machine

variable {s t : State}

/-! ### PACE slots kept -/

/-- Every slot whose source is PACE in `s` has the source PACE in `t`, with the same step or another. -/
def KeepsPace (s t : State) : Prop := ∀ k, (s.slot k).source.isPace = true → (t.slot k).source.isPace = true

/-- No slot whose source is PACE in `s` has a handset as its source in `t` (Table 2-2). -/
def NoPaceToHandset (s t : State) : Prop :=
  ∀ k, (s.slot k).source.isPace = true → ∀ h, (t.slot k).source ≠ .handset h

theorem KeepsPace.refl : KeepsPace s s := fun _ pace => pace

theorem KeepsPace.trans {u : State} (first : KeepsPace s t) (second : KeepsPace t u) : KeepsPace s u :=
  fun k pace => second k (first k pace)

/-- A slot that stays PACE has no handset. -/
theorem KeepsPace.noPaceToHandset (kept : KeepsPace s t) : NoPaceToHandset s t := fun k pace h taken => by
  simpa [taken, Source.isPace] using kept k pace

theorem keepsPace_of_pairing (same : t.pairing = s.pairing) : KeepsPace s t := by
  obtain ⟨-, sources⟩ := Prod.ext_iff.mp same
  have source (k : SlotNo) : (t.slot k).source = (s.slot k).source := congrFun sources k
  exact fun k pace => (source k).symm ▸ pace

theorem keepsPace_of_bindings (same : t.bindings = s.bindings) : KeepsPace s t :=
  keepsPace_of_pairing (pairing_of_bindings same)

/-- One slot record replaced: that slot stays PACE if the new record is. -/
theorem keepsPace_setSlot {k : SlotNo} {r : Slot}
    (source : (s.slot k).source.isPace = true → r.source.isPace = true) : KeepsPace s (s.setSlot k r) :=
    fun j pace => by
  rw [slot_setSlot]
  split
  · rename_i hj
    exact source (hj ▸ pace)
  · exact pace

theorem keepsPace_atSlot (bound : Option SlotNo) {f : Slot → Slot} (source : ∀ r, (f r).source = r.source) :
    KeepsPace s (atSlot bound f s) := fun k pace => by
  rw [atSlot_slot]
  split
  · rwa [source]
  · exact pace

/-- The bound slot of an entry is not PACE, since its source is the entry's handset (R17). -/
theorem boundSlot_ne_of_pace (inv : BindingInv s) {k : SlotNo} (pace : (s.slot k).source.isPace = true)
    (h : EntryNo) : (s.entry h).boundSlot ≠ some k := fun bound => by
  simp [(source_iff inv).mpr bound, Source.isPace] at pace

/-! ### Windows and bindings (Chapters 2 and 3) -/

theorem closeWindow_keepsPace (h : EntryNo) (reason : CloseReason) : KeepsPace s (closeWindow h reason s) := by
  rw [closeWindow_eq]
  exact .refl

theorem closeIfOpen_keepsPace (h : EntryNo) (reason : CloseReason) : KeepsPace s (closeIfOpen h reason s) := by
  unfold closeIfOpen
  split
  · exact closeWindow_keepsPace h reason
  · exact .refl

theorem openRequest_keepsPace (h : EntryNo) : KeepsPace s (openRequest h s) := by
  unfold openRequest
  split
  · exact closeWindow_keepsPace h .cancelled
  · unfold openWindow
    split <;> exact .refl

theorem breakBindingOf_keepsPace (h : EntryNo) (inv : BindingInv s) : KeepsPace s (breakBindingOf h s) :=
  fun k pace => by rwa [breakBindingOf_slot, if_neg (boundSlot_ne_of_pace inv pace h)]

/-- A binding made at a slot that is not PACE breaks and makes none at one that is. -/
theorem boundAnew_keepsPace {k : SlotNo} (unpaced : ¬ (s.slot k).source.isPace = true) (h : EntryNo)
    (inv : BindingInv s) : KeepsPace s (boundAnew h k s) := fun j pace => by
  have other : j ≠ k := fun hj => unpaced (hj ▸ pace)
  rwa [boundAnew_slot_of_ne s h k other, if_neg (boundSlot_ne_of_pace inv pace h)]

theorem bindHandset_keepsPace {k : SlotNo} (unpaced : ¬ (s.slot k).source.isPace = true) (h : EntryNo)
    (inv : BindingInv s) : KeepsPace s (bindHandset h k s) := by
  rw [bindHandset_eq s inv]
  exact boundAnew_keepsPace (s := windowClosed h s) unpaced h (windowClosed_bindingInv h inv)

/-! ### Handset events (Chapter 1) -/

theorem releaseHandset_keepsPace (h : EntryNo) (inv : BindingInv s) : KeepsPace s (releaseHandset h s) :=
  breakBindingOf_keepsPace h inv

theorem loseHandset_keepsPace {h : EntryNo} {e : Enrolled} (he : s.entry h = some e) (window : Bool) :
    KeepsPace s (loseHandset h e window s) := fun k pace => by
  rw [loseHandset_eq s he, emit_slot, lostFrom_slot]
  split <;> exact pace

theorem handPair_keepsPace (h : EntryNo) (press window : Bool) : KeepsPace s (handPair h press window s) := by
  rw [handPair_eq]
  split
  · exact openRequest_keepsPace h
  · exact .refl

theorem acceptSample_keepsPace (h : EntryNo) (e : Enrolled) (m : Sample) : KeepsPace s (acceptSample h e m s) := by
  have revived (t : State) : KeepsPace t (atSlot e.bound (Slot.revived (Entry.isLost (some e))) t) :=
    keepsPace_atSlot e.bound fun _ => rfl
  have pressed (press lc : Bool) (t : State) : KeepsPace t (atSlot e.bound (Slot.pressed press lc) t) :=
    keepsPace_atSlot e.bound fun _ => rfl
  rw [acceptSample_eq]
  exact ((revived (s.setEntry h _)).trans (handPair_keepsPace h _ _)).trans (pressed _ _ _)

theorem takeSample_keepsPace (id : RadioId) (m : Sample) : KeepsPace s (takeSample id m s) := by
  unfold takeSample
  split
  · split
    · unfold knownSample
      split
      · split
        · exact .refl
        · exact acceptSample_keepsPace _ _ m
      · exact acceptSample_keepsPace _ _ m
    · exact .refl
  · unfold unknownSample
    split
    · split
      · rename_i h _
        exact openRequest_keepsPace (s := s.setEntry h _) h
      · exact .refl
    · exact .refl

theorem routeSample_keepsPace (payload : List Byte) : KeepsPace s (routeSample payload s) := by
  unfold routeSample
  split
  · dsimp only
    split
    · exact .refl
    · exact takeSample_keepsPace _ _
  · exact .refl

/-! ### Sightings (R43, R61 to R65) -/

/-- A sighting binds a slot whose source is NONE (R43). -/
theorem pairSighting_keepsPace (slot : Option SlotNo) (inv : BindingInv s) : KeepsPace s (pairSighting slot s) := by
  rcases noPairing_or_eligible s slot with quiet | ⟨k, w, rest, rfl, free, head⟩
  · rw [pairSighting_of_noPairing quiet]
    exact .refl
  · obtain ⟨outputs, bound⟩ := pairSighting_boundBySighting free head
    rw [bound]
    exact boundAnew_keepsPace (by simp [free, Source.isPace]) w.entry inv

theorem crossSighting_keepsPace (x : CrossNo) (sensor : Sensor) (slot : Option SlotNo) :
    KeepsPace s (crossSighting x sensor slot s) := keepsPace_of_pairing (crossSighting_pairing s x sensor slot)

theorem takeSighting_keepsPace (x : CrossNo) (sensor p w : Byte) (inv : BindingInv s) :
    KeepsPace s (takeSighting x sensor p w s) := by
  have handed (sensor : Sensor) (slot : Option SlotNo) : KeepsPace s (handSighting x sensor slot s) := by
    obtain ⟨draws, order | order⟩ := handSighting_eitherOrder x sensor slot s
    · rw [order]
      exact (pairSighting_keepsPace (s := { s with freeDraws := draws }) slot inv).trans
        (crossSighting_keepsPace x sensor slot)
    · rw [order]
      exact (crossSighting_keepsPace (s := { s with freeDraws := draws }) x sensor slot).trans
        (pairSighting_keepsPace slot (crossSighting_bindingInv x sensor slot inv))
  unfold takeSighting
  split
  · exact .refl
  · split
    · exact .refl
    · exact handed _ _

/-- However many reports the bytes of the section line hold, a PACE slot stays one. -/
theorem receiveSection_keepsPace (bytes : List Byte) (inv : BindingInv s) : KeepsPace s (receiveSection bytes s) := by
  induction bytes generalizing s with
  | nil => exact .refl
  | cons b rest ih =>
    unfold receiveSection
    split
    · rename_i buffer _
      exact ih (s := { s with sectionRx := buffer }) inv
    · rename_i buffer r _
      have held : BindingInv { s with sectionRx := buffer } := inv
      cases r with
      | sighting x sensor p w =>
        exact (takeSighting_keepsPace (s := { s with sectionRx := buffer }) x sensor p w held).trans
          (ih (takeSighting_bindingInv x sensor p w held))
      | position x pos =>
        have same := takePosition_bindings { s with sectionRx := buffer } x pos
        exact (keepsPace_of_bindings (s := { s with sectionRx := buffer }) same).trans (ih (bindingInv_congr same held))

/-! ### Rail frames (R21, R112) -/

theorem formDrive_keepsPace (k : SlotNo) : KeepsPace s (formDrive k s) := by
  have applied : KeepsPace s (applyPending k s) := by
    simp only [applyPending]
    split
    · exact .refl
    · exact keepsPace_setSlot id
  exact applied.trans (keepsPace_setSlot (k := k)
    (r := { (applyPending k s).slot k with lastStep := driveStep (applyPending k s) k }) id)

/-! ### Requests -/

section
variable (tag : Byte) (args : List Byte)

theorem profileSecondRequest_keepsPace : KeepsPace s (profileSecondRequest tag args s) := by
  unfold profileSecondRequest
  split
  · split
    · rename_i k _
      exact keepsPace_setSlot (k := k) (r := { s.slot k with pendingProfile := some _ }) id
    · exact .refl
  · exact .refl

/-- BIND is refused at a PACE slot (R48). -/
theorem bindRequest_keepsPace (inv : BindingInv s) : KeepsPace s (bindRequest tag args s) := by
  unfold bindRequest
  split
  · split
    · split
      · exact .refl
      · split
        · exact .refl
        · rename_i unpaced
          exact bindHandset_keepsPace unpaced _ inv
    · exact .refl
  · exact .refl

/-- UNBIND frees a PACE slot: it comes to NONE, and no slot comes to have a handset (R29). -/
theorem unbindSlot_noPaceToHandset (k : SlotNo) : NoPaceToHandset s (unbindSlot k s) := fun j pace g => by
  cases hs : (s.slot k).source with
  | handset h =>
    have other : k ≠ j := fun hj => by simp [← hj, hs, Source.isPace] at pace
    simp only [unbindSlot, hs, echoTo_slot]
    rw [breakBinding_slot, if_neg other]
    exact (closeIfOpen_keepsPace h .superseded).noPaceToHandset j pace g
  | pace p =>
    simp only [unbindSlot, hs]
    rw [slot_setSlot]
    split
    · exact nofun
    · exact KeepsPace.refl.noPaceToHandset j pace g
  | none =>
    simp only [unbindSlot, hs]
    exact KeepsPace.refl.noPaceToHandset j pace g

theorem unbindRequest_noPaceToHandset : NoPaceToHandset s (unbindRequest tag args s) := by
  unfold unbindRequest
  split
  · split
    · exact unbindSlot_noPaceToHandset _
    · exact KeepsPace.refl.noPaceToHandset
  · exact KeepsPace.refl.noPaceToHandset

theorem forgetRequest_keepsPace (inv : BindingInv s) : KeepsPace s (forgetRequest tag args s) := by
  unfold forgetRequest
  split
  · split
    · split
      · exact .refl
      · rename_i h _ _
        exact (closeIfOpen_keepsPace h .superseded).trans
          (releaseHandset_keepsPace h (closeIfOpen_bindingInv h .superseded inv))
    · exact .refl
  · exact .refl

theorem setPaceRequest_keepsPace : KeepsPace s (setPaceRequest tag args s) := by
  unfold setPaceRequest
  split
  · split
    · rename_i k _
      split
      · exact .refl
      · exact keepsPace_setSlot (k := k) (r := { s.slot k with source := .pace _ }) fun _ => rfl
    · exact .refl
  · exact .refl

theorem wishRequest_keepsPace : KeepsPace s (wishRequest tag args s) := by
  unfold wishRequest
  split
  · split
    · split
      · rename_i k _ _
        exact keepsPace_setSlot (k := k) (r := { s.slot k with wish := _ }) id
      · exact .refl
    · exact .refl
  · exact .refl

/-- RESTART keeps the source of a PACE slot (R35). -/
theorem restartRequest_keepsPace : KeepsPace s (restartRequest tag args s) := by
  have forgot : KeepsPace s (forgotten s) := fun k pace => by
    obtain ⟨p, hp⟩ := isPace_iff.mp pace
    rw [forgotten_slot]
    simp [Slot.restarted, hp, Source.isPace]
  unfold restartRequest
  split
  · rw [restartPart_eq]
    exact forgot.trans
      (keepsPace_of_bindings ((queueNotice_bindings _ _).trans (restartCrossovers_bindings _)))
  · exact .refl

/-- A code of Table 12-4 names its request, and every other is refused (R151 ①). -/
theorem requestByCode_noPaceToHandset (code : Byte) (inv : BindingInv s) :
    NoPaceToHandset s (requestByCode tag code args s) := by
  have same {t : State} (h : t.bindings = s.bindings) : NoPaceToHandset s t :=
    (keepsPace_of_bindings h).noPaceToHandset
  unfold requestByCode
  split
  · exact same (statusRequest_bindings ..)
  · exact same (readHandsetRequest_bindings ..)
  · exact same (readSlotRequest_bindings ..)
  · exact same (readCrossoverRequest_bindings ..)
  · exact same (readWindowsRequest_bindings ..)
  · exact same (profileFirstRequest_bindings ..)
  · exact (profileSecondRequest_keepsPace tag args).noPaceToHandset
  · exact (bindRequest_keepsPace tag args inv).noPaceToHandset
  · exact unbindRequest_noPaceToHandset tag args
  · exact (forgetRequest_keepsPace tag args inv).noPaceToHandset
  · exact (setPaceRequest_keepsPace tag args).noPaceToHandset
  · exact (wishRequest_keepsPace tag args).noPaceToHandset
  · exact same (beaconRequest_bindings ..)
  · exact same (beaconClearRequest_bindings ..)
  · exact same (toleranceRequest_bindings ..)
  · exact same (crossoverSetRequest_bindings ..)
  · exact same (crossoverClearRequest_bindings ..)
  · exact same (trackRequest_bindings ..)
  · exact same (clearCutoffRequest_bindings ..)
  · exact same (linkSetRequest_bindings ..)
  · exact (restartRequest_keepsPace tag args).noPaceToHandset
  · exact KeepsPace.refl.noPaceToHandset
end

/-! ### Commands -/

theorem silenceExpiry_keepsPace {h : EntryNo} (ht : exec (.silenceExpiry h) s = .next t) : KeepsPace s t := by
  obtain rfl := Host.Outcome.next.inj ht
  split
  · split
    · split
      · exact loseHandset_keepsPace ‹_› _
      · exact .refl
    · exact .refl
  · exact .refl

theorem releaseExpiry_keepsPace {h : EntryNo} (inv : BindingInv s) (ht : exec (.releaseExpiry h) s = .next t) :
    KeepsPace s t := by
  obtain rfl := Host.Outcome.next.inj ht
  split
  · split
    · split
      · exact releaseHandset_keepsPace h inv
      · exact .refl
    all_goals exact .refl
  · exact .refl

theorem windowExpiry_keepsPace {h : EntryNo} (ht : exec (.windowExpiry h) s = .next t) : KeepsPace s t := by
  obtain rfl := Host.Outcome.next.inj ht
  split
  · split
    · exact closeWindow_keepsPace h .expired
    · exact .refl
  · exact .refl

theorem clearDeadlineExpiry_keepsPace {x : CrossNo} {i : Fin 4} (ht : exec (.clearDeadlineExpiry x i) s = .next t) :
    KeepsPace s t := by
  obtain rfl := Host.Outcome.next.inj ht
  split
  · split
    · exact keepsPace_of_pairing (removeEntry_pairing ..)
    · exact .refl
  · exact .refl

theorem driveFrame_keepsPace {k : SlotNo} (ht : exec (.driveFrame k) s = .next t) : KeepsPace s t := by
  obtain rfl := Host.Outcome.next.inj ht
  split
  · exact formDrive_keepsPace k
  · exact .refl

/-- A request command is what its code of Table 12-4 names, or is discarded (R144). -/
theorem request_noPaceToHandset {tag code : Byte} {args : List Byte} (inv : BindingInv s)
    (ht : (Host.Outcome.next (onRequest (requestByCode tag code args) s) : Result) = .next t) :
    NoPaceToHandset s t := by
  obtain rfl := Host.Outcome.next.inj ht
  unfold onRequest
  dsimp only
  split
  · exact requestByCode_noPaceToHandset (s := s.handTaken) tag args code inv
  · exact KeepsPace.refl.noPaceToHandset

/-- A power-on reset leaves every slot without a source (R34). -/
theorem powerOnReset_noPaceToHandset {asserted : Bool} (ht : exec (.powerOnReset asserted) s = .next t) :
    NoPaceToHandset s t := fun k _ h => by
  obtain rfl := Host.Outcome.next.inj ht
  change ((poweredOn asserted s).slot k).source ≠ .handset h
  rw [poweredOn_slot]
  exact nofun

/-- The slots that UNBIND and a power-on reset free apart, every command but raw bytes on the hand link keeps the PACE
slots. -/
theorem exec_noPaceToHandset {c : Instr} (inv : BindingInv s) (framed : ∀ bytes, c ≠ .handLinkFrameDiscard bytes)
    (ht : exec c s = .next t) : NoPaceToHandset s t := by
  have kept {u : State} (taken : KeepsPace s u) (hu : (Host.Outcome.next u : Result) = .next t) :
      NoPaceToHandset s t := Host.Outcome.next.inj hu ▸ taken.noPaceToHandset
  have same (h : t.bindings = s.bindings) : NoPaceToHandset s t := (keepsPace_of_bindings h).noPaceToHandset
  cases c with
  | handLinkFrameDiscard bytes => exact absurd rfl (framed bytes)
  | powerOnReset asserted => exact powerOnReset_noPaceToHandset ht
  | sample payload => exact kept (routeSample_keepsPace (s := s.handTaken) payload) ht
  | silenceExpiry h => exact (silenceExpiry_keepsPace ht).noPaceToHandset
  | releaseExpiry h => exact (releaseExpiry_keepsPace inv ht).noPaceToHandset
  | windowExpiry h => exact (windowExpiry_keepsPace ht).noPaceToHandset
  | sighting x sensor p w => exact kept (takeSighting_keepsPace (s := s.reportTaken) x sensor p w inv) ht
  | sectionFrameDiscard bytes => exact kept (receiveSection_keepsPace bytes inv) ht
  | clearDeadlineExpiry x i => exact (clearDeadlineExpiry_keepsPace ht).noPaceToHandset
  | driveFrame k => exact (driveFrame_keepsPace ht).noPaceToHandset
  | position x pos => exact kept (keepsPace_of_bindings (takePosition_bindings s.reportTaken x pos)) ht
  | guardElapse x => exact same (guardElapse_bindings ht)
  | confirmDeadlineExpiry x => exact same (confirmDeadlineExpiry_bindings ht)
  | faultLineAsserted => exact same (faultLineAsserted_bindings ht)
  | headFrame => exact same (headFrame_bindings ht)
  | gateFrame => exact same (gateFrame_bindings ht)
  | codeFrame => exact same (codeFrame_bindings ht)
  | sectionByteTimeout | handLinkByteTimeout | faultLineReleased | transmitterFrameEnd =>
    exact same (Host.Outcome.next.inj ht ▸ rfl)
  | unknownRequest tag code args => exact request_noPaceToHandset inv ht
  | status tag args => exact request_noPaceToHandset (code := 0x01) inv ht
  | readHandset tag args => exact request_noPaceToHandset (code := 0x02) inv ht
  | readSlot tag args => exact request_noPaceToHandset (code := 0x03) inv ht
  | readCrossover tag args => exact request_noPaceToHandset (code := 0x04) inv ht
  | readWindows tag args => exact request_noPaceToHandset (code := 0x05) inv ht
  | profileFirst tag args => exact request_noPaceToHandset (code := 0x10) inv ht
  | profileSecond tag args => exact request_noPaceToHandset (code := 0x11) inv ht
  | bind tag args => exact request_noPaceToHandset (code := 0x20) inv ht
  | unbind tag args => exact request_noPaceToHandset (code := 0x21) inv ht
  | forget tag args => exact request_noPaceToHandset (code := 0x22) inv ht
  | setPace tag args => exact request_noPaceToHandset (code := 0x23) inv ht
  | wish tag args => exact request_noPaceToHandset (code := 0x24) inv ht
  | beacon tag args => exact request_noPaceToHandset (code := 0x30) inv ht
  | beaconClear tag args => exact request_noPaceToHandset (code := 0x31) inv ht
  | tolerance tag args => exact request_noPaceToHandset (code := 0x32) inv ht
  | crossoverSet tag args => exact request_noPaceToHandset (code := 0x40) inv ht
  | crossoverClear tag args => exact request_noPaceToHandset (code := 0x41) inv ht
  | track tag args => exact request_noPaceToHandset (code := 0x50) inv ht
  | clearCutoff tag args => exact request_noPaceToHandset (code := 0x51) inv ht
  | linkSet tag args => exact request_noPaceToHandset (code := 0x60) inv ht
  | restart tag args => exact request_noPaceToHandset (code := 0x7F) inv ht

/-- Settles O11: a command keeps the PACE slots or frees one, and gives none a handset. -/
theorem aPaceSlotNeverPassesToAHandset : Obligations.APaceSlotNeverPassesToAHandset := by
  unfold Obligations.APaceSlotNeverPassesToAHandset
  exact fun c s t k p h inv framed pace ht => exec_noPaceToHandset inv framed ht k (isPace_iff.mpr ⟨p, pace⟩) h

end Sys2Proof.Machine
end
